-- ==== Sys2Proof/Word.lean ====
section
/-! DEFINITION. The two widths of the Landmine CORE: the 16-bit cell pattern (spec R6 CELL_WIDTH) and the
8-bit byte of the instruction stream, which is also the width of a cell index (spec R6 CELL_INDEX_WIDTH). -/

namespace Sys2Proof

/-- A 16-bit pattern: what a cell, a vector-table entry, a target and an instruction-stream address hold (R6, R18). -/
abbrev Word := BitVec 16

/-- An 8-bit pattern: an instruction-stream byte, an operand byte, a cell index (R6, R12). -/
abbrev Byte := BitVec 8

end Sys2Proof
end

