-- ==== Sys2Proof/Syntax.lean ====
section
/-! DEFINITION. The instructions of the Landmine ISA: one constructor for each row of spec/opcode_table.json, with the
operand bytes of its format (spec R53, R54). A register operand is its 8-bit cell index, an 8-bit literal its raw
byte, a target the assembled 16-bit pattern (R55). The operand bytes that an unassigned opcode consumes and ignores
are kept, so that an instruction still tells which bytes encode it. -/

namespace Sys2Proof

/-- An instruction of the Landmine ISA (R61). -/
inductive Instr where
  /-- opcode 0x00: unassigned, no action (R106). -/
  | unassigned00
  /-- opcode 0x01: NOP (R68). -/
  | nop
  /-- opcode 0x02: RET (R69). -/
  | ret
  /-- opcode 0x03: RETI (R70). -/
  | reti
  /-- opcode 0x04: CLI (R71). -/
  | cli
  /-- opcode 0x05: STI (R72). -/
  | sti
  /-- opcode 0x06: HLT (R73). -/
  | hlt
  /-- opcode 0x07: unassigned, no action (R106). -/
  | unassigned07
  /-- opcode 0x08: unassigned, no action (R106). -/
  | unassigned08
  /-- opcode 0x09: unassigned, no action (R106). -/
  | unassigned09
  /-- opcode 0x0A: unassigned, no action (R106). -/
  | unassigned0A
  /-- opcode 0x0B: unassigned, no action (R106). -/
  | unassigned0B
  /-- opcode 0x0C: unassigned, no action (R106). -/
  | unassigned0C
  /-- opcode 0x0D: unassigned, no action (R106). -/
  | unassigned0D
  /-- opcode 0x0E: unassigned, no action (R106). -/
  | unassigned0E
  /-- opcode 0x0F: unassigned, no action (R106). -/
  | unassigned0F
  /-- opcode 0x10: INC Ra1 (R74). -/
  | inc (a1 : Byte)
  /-- opcode 0x11: DEC Ra1 (R75). -/
  | dec (a1 : Byte)
  /-- opcode 0x12: PUSH Ra1 (R76). -/
  | push (a1 : Byte)
  /-- opcode 0x13: POP Ra1 (R77). -/
  | pop (a1 : Byte)
  /-- opcode 0x14: unassigned, no action (R107). -/
  | unassigned14 (a1 : Byte)
  /-- opcode 0x15: unassigned, no action (R107). -/
  | unassigned15 (a1 : Byte)
  /-- opcode 0x16: unassigned, no action (R107). -/
  | unassigned16 (a1 : Byte)
  /-- opcode 0x17: unassigned, no action (R107). -/
  | unassigned17 (a1 : Byte)
  /-- opcode 0x18: unassigned, no action (R107). -/
  | unassigned18 (a1 : Byte)
  /-- opcode 0x19: unassigned, no action (R107). -/
  | unassigned19 (a1 : Byte)
  /-- opcode 0x1A: unassigned, no action (R107). -/
  | unassigned1A (a1 : Byte)
  /-- opcode 0x1B: unassigned, no action (R107). -/
  | unassigned1B (a1 : Byte)
  /-- opcode 0x1C: unassigned, no action (R107). -/
  | unassigned1C (a1 : Byte)
  /-- opcode 0x1D: unassigned, no action (R107). -/
  | unassigned1D (a1 : Byte)
  /-- opcode 0x1E: unassigned, no action (R107). -/
  | unassigned1E (a1 : Byte)
  /-- opcode 0x1F: unassigned, no action (R107). -/
  | unassigned1F (a1 : Byte)
  /-- opcode 0x20: MOV Ra1, Ra2 (R78). -/
  | movRR (a1 a2 : Byte)
  /-- opcode 0x21: MOV Ra1, [Ra2] (R79). -/
  | movLoad (a1 a2 : Byte)
  /-- opcode 0x22: MOV [Ra1], Ra2 (R80). -/
  | movStore (a1 a2 : Byte)
  /-- opcode 0x23: MOV Ra1, L (R81). -/
  | movLit8 (a1 lit : Byte)
  /-- opcode 0x24: AND Ra1, Ra2 (R82). -/
  | andRR (a1 a2 : Byte)
  /-- opcode 0x25: OR Ra1, Ra2 (R83). -/
  | orRR (a1 a2 : Byte)
  /-- opcode 0x26: XOR Ra1, Ra2 (R84). -/
  | xorRR (a1 a2 : Byte)
  /-- opcode 0x27: MUL Ra1, Ra2 (R85). -/
  | mulRR (a1 a2 : Byte)
  /-- opcode 0x28: DIV Ra1, Ra2 (R86). -/
  | divRR (a1 a2 : Byte)
  /-- opcode 0x29: ADD Ra1, Ra2 (R87). -/
  | addRR (a1 a2 : Byte)
  /-- opcode 0x2A: SUB Ra1, Ra2 (R88). -/
  | subRR (a1 a2 : Byte)
  /-- opcode 0x2B: JMP target (R89). -/
  | jmp (target : Word)
  /-- opcode 0x2C: CALL target (R90). -/
  | call (target : Word)
  /-- opcode 0x2D: JE target (R91). -/
  | je (target : Word)
  /-- opcode 0x2E: JNE target (R92). -/
  | jne (target : Word)
  /-- opcode 0x2F: JO target (R93). -/
  | jo (target : Word)
  /-- opcode 0x30: JNO target (R94). -/
  | jno (target : Word)
  /-- opcode 0x31: CMP Ra1, Ra2 (R95). -/
  | cmpRR (a1 a2 : Byte)
  /-- opcode 0x32: CMP Ra1, L (R96). -/
  | cmpLit8 (a1 lit : Byte)
  /-- opcode 0x33: unassigned, no action (R108). -/
  | unassigned33 (a1 a2 : Byte)
  /-- opcode 0x34: unassigned, no action (R108). -/
  | unassigned34 (a1 a2 : Byte)
  /-- opcode 0x35: unassigned, no action (R108). -/
  | unassigned35 (a1 a2 : Byte)
  /-- opcode 0x36: unassigned, no action (R108). -/
  | unassigned36 (a1 a2 : Byte)
  /-- opcode 0x37: unassigned, no action (R108). -/
  | unassigned37 (a1 a2 : Byte)
  /-- opcode 0x38: unassigned, no action (R108). -/
  | unassigned38 (a1 a2 : Byte)
  /-- opcode 0x39: unassigned, no action (R108). -/
  | unassigned39 (a1 a2 : Byte)
  /-- opcode 0x3A: unassigned, no action (R108). -/
  | unassigned3A (a1 a2 : Byte)
  /-- opcode 0x3B: unassigned, no action (R108). -/
  | unassigned3B (a1 a2 : Byte)
  /-- opcode 0x3C: unassigned, no action (R108). -/
  | unassigned3C (a1 a2 : Byte)
  /-- opcode 0x3D: unassigned, no action (R108). -/
  | unassigned3D (a1 a2 : Byte)
  /-- opcode 0x3E: unassigned, no action (R108). -/
  | unassigned3E (a1 a2 : Byte)
  /-- opcode 0x3F: unassigned, no action (R108). -/
  | unassigned3F (a1 a2 : Byte)
  /-- opcode 0x40: LPM Ra1, target (R97). -/
  | lpm (a1 : Byte) (target : Word)
  /-- opcode 0x41: AND Ra1, target (R98). -/
  | andLit16 (a1 : Byte) (target : Word)
  /-- opcode 0x42: OR Ra1, target (R99). -/
  | orLit16 (a1 : Byte) (target : Word)
  /-- opcode 0x43: XOR Ra1, target (R100). -/
  | xorLit16 (a1 : Byte) (target : Word)
  /-- opcode 0x44: ADD Ra1, target (R101). -/
  | addLit16 (a1 : Byte) (target : Word)
  /-- opcode 0x45: SUB Ra1, target (R102). -/
  | subLit16 (a1 : Byte) (target : Word)
  /-- opcode 0x46: CMP Ra1, target (R103). -/
  | cmpLit16 (a1 : Byte) (target : Word)
  /-- opcode 0x47: INT a1, target (R104). -/
  | int (n : Byte) (target : Word)
  /-- opcode 0x48: MOV Ra1, target (R105). -/
  | movLit16 (a1 : Byte) (target : Word)
  /-- opcode 0x49: unassigned, no action (R109). -/
  | unassigned49 (a1 a2 a3 : Byte)
  /-- opcode 0x4A: unassigned, no action (R109). -/
  | unassigned4A (a1 a2 a3 : Byte)
  /-- opcode 0x4B: unassigned, no action (R109). -/
  | unassigned4B (a1 a2 a3 : Byte)
  /-- opcode 0x4C: unassigned, no action (R109). -/
  | unassigned4C (a1 a2 a3 : Byte)
  /-- opcode 0x4D: unassigned, no action (R109). -/
  | unassigned4D (a1 a2 a3 : Byte)
  /-- opcode 0x4E: unassigned, no action (R109). -/
  | unassigned4E (a1 a2 a3 : Byte)
  /-- opcode 0x4F: unassigned, no action (R109). -/
  | unassigned4F (a1 a2 a3 : Byte)
  /-- opcodes 0x50 to 0x5F (mask 0xF0): no length, DecodeFault (R110); the opcode byte itself is kept. -/
  | illegal50 (op : Byte)
  /-- opcodes 0x60 to 0x7F (mask 0xE0): no length, DecodeFault (R110); the opcode byte itself is kept. -/
  | illegal60 (op : Byte)
  /-- opcodes 0x80 to 0xFF (mask 0x80): no length, DecodeFault (R110); the opcode byte itself is kept. -/
  | illegal80 (op : Byte)
  deriving DecidableEq, Repr

end Sys2Proof
end

