-- ==== Sys2Proof/WellFormed.lean ====
section
/-! DEFINITION. Which terms of `Instr` stand for an instruction. Every operand byte is legal in every format (spec
R56: no register operand can be invalid), so the only checks are those of the three illegal rows, whose constructors
carry the opcode byte: it must match the row's mask (spec R61, R63; opcode_table.json). -/

namespace Sys2Proof

/-- The check, as a Bool: the carried opcode of an illegal row matches that row's match and mask. -/
def Instr.wellFormed : Instr → Bool
  | .illegal50 op => op &&& 0xF0#8 == 0x50#8
  | .illegal60 op => op &&& 0xE0#8 == 0x60#8
  | .illegal80 op => op &&& 0x80#8 == 0x80#8
  | .unassigned00 => true
  | .nop => true
  | .ret => true
  | .reti => true
  | .cli => true
  | .sti => true
  | .hlt => true
  | .unassigned07 => true
  | .unassigned08 => true
  | .unassigned09 => true
  | .unassigned0A => true
  | .unassigned0B => true
  | .unassigned0C => true
  | .unassigned0D => true
  | .unassigned0E => true
  | .unassigned0F => true
  | .inc _ => true
  | .dec _ => true
  | .push _ => true
  | .pop _ => true
  | .unassigned14 _ => true
  | .unassigned15 _ => true
  | .unassigned16 _ => true
  | .unassigned17 _ => true
  | .unassigned18 _ => true
  | .unassigned19 _ => true
  | .unassigned1A _ => true
  | .unassigned1B _ => true
  | .unassigned1C _ => true
  | .unassigned1D _ => true
  | .unassigned1E _ => true
  | .unassigned1F _ => true
  | .movRR _ _ => true
  | .movLoad _ _ => true
  | .movStore _ _ => true
  | .movLit8 _ _ => true
  | .andRR _ _ => true
  | .orRR _ _ => true
  | .xorRR _ _ => true
  | .mulRR _ _ => true
  | .divRR _ _ => true
  | .addRR _ _ => true
  | .subRR _ _ => true
  | .jmp _ => true
  | .call _ => true
  | .je _ => true
  | .jne _ => true
  | .jo _ => true
  | .jno _ => true
  | .cmpRR _ _ => true
  | .cmpLit8 _ _ => true
  | .unassigned33 _ _ => true
  | .unassigned34 _ _ => true
  | .unassigned35 _ _ => true
  | .unassigned36 _ _ => true
  | .unassigned37 _ _ => true
  | .unassigned38 _ _ => true
  | .unassigned39 _ _ => true
  | .unassigned3A _ _ => true
  | .unassigned3B _ _ => true
  | .unassigned3C _ _ => true
  | .unassigned3D _ _ => true
  | .unassigned3E _ _ => true
  | .unassigned3F _ _ => true
  | .lpm _ _ => true
  | .andLit16 _ _ => true
  | .orLit16 _ _ => true
  | .xorLit16 _ _ => true
  | .addLit16 _ _ => true
  | .subLit16 _ _ => true
  | .cmpLit16 _ _ => true
  | .int _ _ => true
  | .movLit16 _ _ => true
  | .unassigned49 _ _ _ => true
  | .unassigned4A _ _ _ => true
  | .unassigned4B _ _ _ => true
  | .unassigned4C _ _ _ => true
  | .unassigned4D _ _ _ => true
  | .unassigned4E _ _ _ => true
  | .unassigned4F _ _ _ => true

/-- `i` is well formed. -/
abbrev Instr.WellFormed (i : Instr) : Prop := i.wellFormed = true

end Sys2Proof
end

