-- ==== Sys2Proof/Decode.lean ====
section
/-! DEFINITION. Decoding and encoding (spec 30_encoding.md). The length of an instruction follows from its first byte
alone (R52); the opcode map R61 then names the instruction, and its operand bytes are assembled as R53 to R58 say. -/

namespace Sys2Proof

/-- `OperandCount(op)` of R52, fixed by the opcode's numeric range. Opcodes 0x50 to 0xFF have no count: no operand
byte of theirs is read (R63, R110), which is a count of 0 here. -/
def operandCount (op : Byte) : Nat :=
  if op < 0x10#8 then 0
  else if op < 0x20#8 then 1
  else if op < 0x40#8 then 2
  else if op < 0x50#8 then 3
  else 0

/-- The illegal row an opcode of 0x50 to 0xFF belongs to (R61, R110). -/
def illegalOf (op : Byte) : Instr :=
  if op < 0x60#8 then .illegal50 op
  else if op < 0x80#8 then .illegal60 op
  else .illegal80 op

/-- The opcode map of R61, with the operands of R53 and R54: `a1`, `a2`, `a3` are the operand bytes in order and a
target is the last two of them, high byte first (R55). A format with fewer operand bytes does not look at the rest. -/
def instrOf (op a1 a2 a3 : Byte) : Instr :=
  match op.toNat with
  | 0x00 => .unassigned00
  | 0x01 => .nop
  | 0x02 => .ret
  | 0x03 => .reti
  | 0x04 => .cli
  | 0x05 => .sti
  | 0x06 => .hlt
  | 0x07 => .unassigned07
  | 0x08 => .unassigned08
  | 0x09 => .unassigned09
  | 0x0A => .unassigned0A
  | 0x0B => .unassigned0B
  | 0x0C => .unassigned0C
  | 0x0D => .unassigned0D
  | 0x0E => .unassigned0E
  | 0x0F => .unassigned0F
  | 0x10 => .inc a1
  | 0x11 => .dec a1
  | 0x12 => .push a1
  | 0x13 => .pop a1
  | 0x14 => .unassigned14 a1
  | 0x15 => .unassigned15 a1
  | 0x16 => .unassigned16 a1
  | 0x17 => .unassigned17 a1
  | 0x18 => .unassigned18 a1
  | 0x19 => .unassigned19 a1
  | 0x1A => .unassigned1A a1
  | 0x1B => .unassigned1B a1
  | 0x1C => .unassigned1C a1
  | 0x1D => .unassigned1D a1
  | 0x1E => .unassigned1E a1
  | 0x1F => .unassigned1F a1
  | 0x20 => .movRR a1 a2
  | 0x21 => .movLoad a1 a2
  | 0x22 => .movStore a1 a2
  | 0x23 => .movLit8 a1 a2
  | 0x24 => .andRR a1 a2
  | 0x25 => .orRR a1 a2
  | 0x26 => .xorRR a1 a2
  | 0x27 => .mulRR a1 a2
  | 0x28 => .divRR a1 a2
  | 0x29 => .addRR a1 a2
  | 0x2A => .subRR a1 a2
  | 0x2B => .jmp (a1 ++ a2)
  | 0x2C => .call (a1 ++ a2)
  | 0x2D => .je (a1 ++ a2)
  | 0x2E => .jne (a1 ++ a2)
  | 0x2F => .jo (a1 ++ a2)
  | 0x30 => .jno (a1 ++ a2)
  | 0x31 => .cmpRR a1 a2
  | 0x32 => .cmpLit8 a1 a2
  | 0x33 => .unassigned33 a1 a2
  | 0x34 => .unassigned34 a1 a2
  | 0x35 => .unassigned35 a1 a2
  | 0x36 => .unassigned36 a1 a2
  | 0x37 => .unassigned37 a1 a2
  | 0x38 => .unassigned38 a1 a2
  | 0x39 => .unassigned39 a1 a2
  | 0x3A => .unassigned3A a1 a2
  | 0x3B => .unassigned3B a1 a2
  | 0x3C => .unassigned3C a1 a2
  | 0x3D => .unassigned3D a1 a2
  | 0x3E => .unassigned3E a1 a2
  | 0x3F => .unassigned3F a1 a2
  | 0x40 => .lpm a1 (a2 ++ a3)
  | 0x41 => .andLit16 a1 (a2 ++ a3)
  | 0x42 => .orLit16 a1 (a2 ++ a3)
  | 0x43 => .xorLit16 a1 (a2 ++ a3)
  | 0x44 => .addLit16 a1 (a2 ++ a3)
  | 0x45 => .subLit16 a1 (a2 ++ a3)
  | 0x46 => .cmpLit16 a1 (a2 ++ a3)
  | 0x47 => .int a1 (a2 ++ a3)
  | 0x48 => .movLit16 a1 (a2 ++ a3)
  | 0x49 => .unassigned49 a1 a2 a3
  | 0x4A => .unassigned4A a1 a2 a3
  | 0x4B => .unassigned4B a1 a2 a3
  | 0x4C => .unassigned4C a1 a2 a3
  | 0x4D => .unassigned4D a1 a2 a3
  | 0x4E => .unassigned4E a1 a2 a3
  | 0x4F => .unassigned4F a1 a2 a3
  | _ => illegalOf op

/-- `instrOf` on the list of operand bytes that were read. -/
def instrOfBytes (op : Byte) (operands : List Byte) : Instr :=
  instrOf op (operands.getD 0 0#8) (operands.getD 1 0#8) (operands.getD 2 0#8)

/-- Why a list of bytes does not begin with a whole instruction. A byte list can end too early; the instruction
stream, which is total (R36), cannot. -/
inductive DecodeError where
  /-- the list is empty: there is no opcode byte -/
  | noOpcodeByte
  /-- the list ends before the operand bytes of this opcode -/
  | operandBytesMissing (op : Byte)
  deriving DecidableEq, Repr

/-- The first instruction of a list of bytes and the bytes after it (R52, R67); total, rejecting by name a list that
ends too early. -/
def decode : List Byte → Except DecodeError (Instr × List Byte)
  | [] => .error .noOpcodeByte
  | op :: bytes =>
    if bytes.length < operandCount op then .error (.operandBytesMissing op)
    else .ok (instrOfBytes op (bytes.take (operandCount op)), bytes.drop (operandCount op))

/-- The more significant byte of a target (R53). -/
def highByte (target : Word) : Byte := target.extractLsb' 8 8

/-- The less significant byte of a target (R53). -/
def lowByte (target : Word) : Byte := target.extractLsb' 0 8

/-- The bytes of an instruction in address order (R53; the `encoding` column of opcode_table.json). -/
def encode : Instr → List Byte
  | .unassigned00 => [0x00#8]
  | .nop => [0x01#8]
  | .ret => [0x02#8]
  | .reti => [0x03#8]
  | .cli => [0x04#8]
  | .sti => [0x05#8]
  | .hlt => [0x06#8]
  | .unassigned07 => [0x07#8]
  | .unassigned08 => [0x08#8]
  | .unassigned09 => [0x09#8]
  | .unassigned0A => [0x0A#8]
  | .unassigned0B => [0x0B#8]
  | .unassigned0C => [0x0C#8]
  | .unassigned0D => [0x0D#8]
  | .unassigned0E => [0x0E#8]
  | .unassigned0F => [0x0F#8]
  | .inc a1 => [0x10#8, a1]
  | .dec a1 => [0x11#8, a1]
  | .push a1 => [0x12#8, a1]
  | .pop a1 => [0x13#8, a1]
  | .unassigned14 a1 => [0x14#8, a1]
  | .unassigned15 a1 => [0x15#8, a1]
  | .unassigned16 a1 => [0x16#8, a1]
  | .unassigned17 a1 => [0x17#8, a1]
  | .unassigned18 a1 => [0x18#8, a1]
  | .unassigned19 a1 => [0x19#8, a1]
  | .unassigned1A a1 => [0x1A#8, a1]
  | .unassigned1B a1 => [0x1B#8, a1]
  | .unassigned1C a1 => [0x1C#8, a1]
  | .unassigned1D a1 => [0x1D#8, a1]
  | .unassigned1E a1 => [0x1E#8, a1]
  | .unassigned1F a1 => [0x1F#8, a1]
  | .movRR a1 a2 => [0x20#8, a1, a2]
  | .movLoad a1 a2 => [0x21#8, a1, a2]
  | .movStore a1 a2 => [0x22#8, a1, a2]
  | .movLit8 a1 lit => [0x23#8, a1, lit]
  | .andRR a1 a2 => [0x24#8, a1, a2]
  | .orRR a1 a2 => [0x25#8, a1, a2]
  | .xorRR a1 a2 => [0x26#8, a1, a2]
  | .mulRR a1 a2 => [0x27#8, a1, a2]
  | .divRR a1 a2 => [0x28#8, a1, a2]
  | .addRR a1 a2 => [0x29#8, a1, a2]
  | .subRR a1 a2 => [0x2A#8, a1, a2]
  | .jmp target => [0x2B#8, highByte target, lowByte target]
  | .call target => [0x2C#8, highByte target, lowByte target]
  | .je target => [0x2D#8, highByte target, lowByte target]
  | .jne target => [0x2E#8, highByte target, lowByte target]
  | .jo target => [0x2F#8, highByte target, lowByte target]
  | .jno target => [0x30#8, highByte target, lowByte target]
  | .cmpRR a1 a2 => [0x31#8, a1, a2]
  | .cmpLit8 a1 lit => [0x32#8, a1, lit]
  | .unassigned33 a1 a2 => [0x33#8, a1, a2]
  | .unassigned34 a1 a2 => [0x34#8, a1, a2]
  | .unassigned35 a1 a2 => [0x35#8, a1, a2]
  | .unassigned36 a1 a2 => [0x36#8, a1, a2]
  | .unassigned37 a1 a2 => [0x37#8, a1, a2]
  | .unassigned38 a1 a2 => [0x38#8, a1, a2]
  | .unassigned39 a1 a2 => [0x39#8, a1, a2]
  | .unassigned3A a1 a2 => [0x3A#8, a1, a2]
  | .unassigned3B a1 a2 => [0x3B#8, a1, a2]
  | .unassigned3C a1 a2 => [0x3C#8, a1, a2]
  | .unassigned3D a1 a2 => [0x3D#8, a1, a2]
  | .unassigned3E a1 a2 => [0x3E#8, a1, a2]
  | .unassigned3F a1 a2 => [0x3F#8, a1, a2]
  | .lpm a1 target => [0x40#8, a1, highByte target, lowByte target]
  | .andLit16 a1 target => [0x41#8, a1, highByte target, lowByte target]
  | .orLit16 a1 target => [0x42#8, a1, highByte target, lowByte target]
  | .xorLit16 a1 target => [0x43#8, a1, highByte target, lowByte target]
  | .addLit16 a1 target => [0x44#8, a1, highByte target, lowByte target]
  | .subLit16 a1 target => [0x45#8, a1, highByte target, lowByte target]
  | .cmpLit16 a1 target => [0x46#8, a1, highByte target, lowByte target]
  | .int n target => [0x47#8, n, highByte target, lowByte target]
  | .movLit16 a1 target => [0x48#8, a1, highByte target, lowByte target]
  | .unassigned49 a1 a2 a3 => [0x49#8, a1, a2, a3]
  | .unassigned4A a1 a2 a3 => [0x4A#8, a1, a2, a3]
  | .unassigned4B a1 a2 a3 => [0x4B#8, a1, a2, a3]
  | .unassigned4C a1 a2 a3 => [0x4C#8, a1, a2, a3]
  | .unassigned4D a1 a2 a3 => [0x4D#8, a1, a2, a3]
  | .unassigned4E a1 a2 a3 => [0x4E#8, a1, a2, a3]
  | .unassigned4F a1 a2 a3 => [0x4F#8, a1, a2, a3]
  | .illegal50 op => [op]
  | .illegal60 op => [op]
  | .illegal80 op => [op]

/-- The length of an instruction in bytes (R52). -/
def Instr.length (i : Instr) : Nat := (encode i).length

/-- Byte `k` of the number `w`, counting from its least significant byte. -/
def byteOfNat (w k : Nat) : Byte := BitVec.ofNat 8 (w >>> (8 * k))

/-- The bytes in address order of an instruction whose first `nbits` bits are `w`, numbered as
spec/opcode_table.json numbers them: the opcode byte is bits 7..0, the next byte bits 15..8, and so on, up to the
longest instruction, four bytes (R52). Bits above `nbits` are 0. -/
def tableWordBytes (nbits w : Nat) : List Byte :=
  (List.range 4).map (byteOfNat (w % 2 ^ nbits))

/-- The instruction the decoder reads from the bytes of a table word. -/
def decodeTableWord (nbits w : Nat) : Option Instr :=
  match decode (tableWordBytes nbits w) with
  | .ok (i, _) => some i
  | .error _ => none

end Sys2Proof
end

