-- ==== Sys2Proof/Config.lean ====
section
/-! DEFINITION. The parameters of the Landmine CORE: the reset values the spec fixes (R6, R33, R127), and the values
this model names where the spec leaves a launch parameter open (R7; assumption log entries 1, 2 and 3). -/

namespace Sys2Proof

/-- PC reset value (R6, R127). -/
abbrev Config.pcReset : Word := 0x0000#16

/-- SP reset value, 252 (R6, R127). -/
abbrev Config.spReset : Word := 0x00FC#16

/-- FLAGS reset value (R6, R127). -/
abbrev Config.flagsReset : Word := 0x0000#16

/-- The value `reset()` gives every entry of the interrupt vector table, "0 = unset/default" (R30, R127). -/
abbrev Config.ivtReset : Word := 0x0000#16

/-- IVT_ENTRIES: the bound of INT, `a1 < 32` (R6, R104; 90_conflicts.md C2). -/
abbrev Config.ivtEntries : Nat := 32

/-- IMEM_SIZE: the instruction stream has this many bytes (R6, R36). -/
abbrev Config.imemSize : Nat := 65536

/-- DESIGN CHOICE (log entry 2, unsafe): what cells 3 to 255 hold in `State.reset`. The spec leaves them to the
launch parameter INIT_CELLS (R7, R33, D16) and gives no value. -/
abbrev Config.initCell : Word := 0x0000#16

/-- DESIGN CHOICE (log entry 1, unsafe): what an instruction-stream address that the list of bytes does not hold
reads as. The list represents the launch parameter IMEM, a TOTAL function (R7, R36, D8): every such function is the
list of its bytes that differ from this one. -/
abbrev Config.unlistedByte : Byte := 0x00#8

/-- DESIGN CHOICE (log entry 3, unsafe): `fault_pc` in `State.reset`; "unspecified (not read while `fault_code` is
None)" (R33). -/
abbrev Config.faultPcInit : Word := 0x0000#16

/-- DESIGN CHOICE (log entry 3, unsafe): `fault_opcode` in `State.reset`; unspecified as `fault_pc` is (R33). -/
abbrev Config.faultOpcodeInit : Byte := 0x00#8

end Sys2Proof
end

