-- ==== Sys2Proof/Machine/State.lean ====
section
/-! DEFINITION. The state of the Landmine CORE (spec 10_state.md): the register/memory file of 256 cells, which holds
the program counter, the stack pointer and the flags (R15, R16), the interrupt vector table (R30), the fault status
(R31) and the instruction stream IMEM (R36), which is a launch parameter and is carried as data so that a run is a
function of the state alone (log entry 1). R32: the block has no other state. -/

namespace Sys2Proof.Machine

/-- The instruction stream as data: (address, byte) pairs with strictly rising addresses, none of which holds
`Config.unlistedByte`, what every address that is not listed reads as. -/
abbrev Memory := List Host.Cell

/-- The defined bits of the flags register, cell 2 (R23). -/
inductive Flag where
  /-- bit 0 -/
  | zero
  /-- bit 1 -/
  | carry
  /-- bit 2, interrupt enable -/
  | ie
  /-- bit 3, halted -/
  | hlt
  deriving DecidableEq, Repr

/-- `fault_code` (R31); the causes are those of R112. -/
inductive FaultCode where
  /-- code 0: no fault is recorded -/
  | none
  /-- code 1: an opcode byte of 0x50 to 0xFF -/
  | decodeFault
  /-- code 2: DIV with divisor 0 -/
  | divideByZero
  /-- code 3: LPM whose target is 0xFFFF -/
  | lpmRangeFault
  deriving DecidableEq, Repr

/-- Why the machine cannot take a step. An instruction that raises a fault completes its step in a next state that
records the fault (R113; log entry 4); these are the answers of a step AFTER that, and of a step of a halted machine. -/
inductive Fault where
  /-- A step of a machine whose fault status is DecodeFault: it reports the recorded fault again and changes nothing
  (R114, R133). Raised by the step's gate. Safe: the spec says the same. -/
  | decodeFault
  /-- A step of a machine whose fault status is DivideByZero (R114, R133). Raised by the step's gate. Safe. -/
  | divideByZero
  /-- A step of a machine whose fault status is LpmRangeFault (R114, R133). Raised by the step's gate. Safe. -/
  | lpmRangeFault
  /-- A step of a halted machine, which has no transition: its state is final (R133, D15). Raised by the step's gate.
  Safe: no behaviour is claimed there. -/
  | halted
  deriving DecidableEq, Repr

/-- Why the model gives no meaning. Every instruction of the opcode table has one, so no step answers this. -/
inductive Refusal where
  /-- An arm of `exec` that has no meaning yet; none is left. Safe: nothing is claimed of such an instruction. -/
  | notModelled (mnemonic : String)
  deriving DecidableEq, Repr

/-- The whole state of the machine. -/
structure State where
  /-- the register/memory file: cell 0 is the program counter, cell 1 the stack pointer, cell 2 the flags (R15, R16) -/
  cells : Vector Word 256
  /-- the interrupt vector table (R30) -/
  ivt : Vector Word 32
  /-- `fault_code` of the fault status (R31) -/
  faultCode : FaultCode
  /-- `fault_pc`: the address of the opcode byte of the faulting instruction (R31) -/
  faultPc : Word
  /-- `fault_opcode`: the opcode byte of the faulting instruction (R31) -/
  faultOpcode : Byte
  /-- the instruction stream IMEM (R36) -/
  imem : Memory
  deriving DecidableEq, Repr

/-- What one step or one meaning answers. -/
abbrev Result := Host.Outcome State Fault Refusal

/-- The machine right after the first `reset()` (R33, R127): the program counter, the stack pointer, the flags, the
vector table and the fault code as the spec states them. Cells 3 to 255 (log entry 2), `fault_pc` and `fault_opcode`
(log entry 3) hold the values `Config` names, and no byte of the instruction stream is listed (log entries 1 and 7). -/
def State.reset : State where
  cells := (((Vector.replicate 256 Config.initCell).set 0 Config.pcReset).set 1 Config.spReset).set 2 Config.flagsReset
  ivt := Vector.replicate 32 Config.ivtReset
  faultCode := .none
  faultPc := Config.faultPcInit
  faultOpcode := Config.faultOpcodeInit
  imem := []

end Sys2Proof.Machine
end

