-- ==== Sys2Proof/Machine/Ops.lean ====
section
/-! DEFINITION. The named operations over the state that the instruction rules call (spec R10): reading and writing a
cell, the three named cells, the stack primitives, the interrupt vector table, the instruction stream, and raising a
fault, with the return from an interrupt beside it. -/

namespace Sys2Proof.Machine

/-! ### Cells -/

/-- `x[i]`: read cell `i` (R10). -/
def State.cell (s : State) (i : Byte) : Word := s.cells[i.toNat]'i.isLt

/-- `x[i] <- v`: write cell `i` (R10). No cell is hardwired or read-only (R17). -/
def State.setCell (s : State) (i : Byte) (v : Word) : State :=
  { s with cells := s.cells.set i.toNat v i.isLt }

/-- `pc`, a name for cell 0 (R10, R19). -/
def State.pc (s : State) : Word := s.cell 0#8

/-- `sp`, a name for cell 1 (R10, R22). -/
def State.sp (s : State) : Word := s.cell 1#8

/-- `flags`, a name for cell 2 (R10, R23). -/
def State.flags (s : State) : Word := s.cell 2#8

/-- `pc <- v` (R10). -/
def State.setPc (s : State) (v : Word) : State := s.setCell 0#8 v

/-- `sp <- v` (R10). -/
def State.setSp (s : State) (v : Word) : State := s.setCell 1#8 v

/-- `flags <- v`: all 16 bits of cell 2 (R10, R23). -/
def State.setFlags (s : State) (v : Word) : State := s.setCell 2#8 v

/-! ### The stack -/

/-- The low 8 bits of a cell's value, by which it selects a cell (R37). -/
def cellIndex (v : Word) : Byte := v.setWidth 8

/-- `push(v)`: write `v` through the stack pointer, then decrement the stack pointer, reading it after that write
(R39). -/
def State.push (s : State) (v : Word) : State :=
  let s1 := s.setCell (cellIndex s.sp) v
  s1.setSp (s1.sp - 1#16)

/-- `pop()`: increment the stack pointer, then return the cell it selects (R40). -/
def State.pop (s : State) : Word × State :=
  let s1 := s.setSp (s.sp + 1#16)
  (s1.cell (cellIndex s1.sp), s1)

/-! ### The interrupt vector table -/

/-- `ivt_read(n)`: the block's external read port (R117). -/
def State.ivtRead (s : State) (n : Fin 32) : Word := s.ivt[n.val]'n.isLt

/-- `ivt[n] <- v` (R10, R30). -/
def State.ivtWrite (s : State) (n : Fin 32) (v : Word) : State :=
  { s with ivt := s.ivt.set n.val v n.isLt }

/-! ### The instruction stream -/

/-- The byte at an address: the listed one, and `Config.unlistedByte` where none is listed. -/
def Memory.read : Memory → Nat → Byte
  | [], _ => Config.unlistedByte
  | (k, b) :: m, a => if k = a then b else Memory.read m a

/-- Store a byte, keeping the canonical form: the list stays sorted, and storing what an unlisted address reads as
removes the entry. No instruction does this (R10 MemWrite); it is how the host's image is laid down. -/
def Memory.write : Memory → Nat → Byte → Memory
  | [], a, v => if v = Config.unlistedByte then [] else [(a, v)]
  | (k, b) :: m, a, v =>
    if a < k then (if v = Config.unlistedByte then (k, b) :: m else (a, v) :: (k, b) :: m)
    else if a = k then (if v = Config.unlistedByte then m else (a, v) :: m)
    else (k, b) :: Memory.write m a v

/-- The canonical form: addresses of the 65536-byte stream, strictly rising, and no entry equal to what an unlisted
address reads as. -/
abbrev Memory.wf (m : Memory) : Prop :=
  m.Pairwise (fun c d => c.1 < d.1) ∧ ∀ c ∈ m, c.1 < Config.imemSize ∧ c.2 ≠ Config.unlistedByte

/-- `MemRead(a, 1)`: the byte of the instruction stream at a 16-bit address (R10, R36). -/
def State.memRead (s : State) (a : Word) : Byte := s.imem.read a.toNat

/-- Lay a byte of the host's image at a 16-bit address (R135 step 1); no instruction does. -/
def State.loadByte (s : State) (a : Word) (v : Byte) : State := { s with imem := s.imem.write a.toNat v }

/-- Lay bytes of the host's image at consecutive addresses, modulo 2^16 as fetches are (R21). -/
def State.loadBytes (s : State) (a : Word) : List Byte → State
  | [] => s
  | b :: bytes => (s.loadByte a b).loadBytes (a + 1#16) bytes

/-! ### Faults and the return from an interrupt -/

/-- `raise F(fault_pc = addr, fault_opcode = op)` by an instruction of `length` bytes: the fault status is set and
nothing else is written (R113). While an instruction executes, `pc` is the address after its bytes (R20), so `addr`
is `pc` less the length, modulo 2^16 (log entry 6). -/
def State.raise (s : State) (code : FaultCode) (length : Nat) (op : Byte) : State :=
  { s with faultCode := code, faultPc := s.pc - BitVec.ofNat 16 length, faultOpcode := op }

/-- The return from an interrupt (R70, R119): the first pop is the return address, the second all of the flags, and
each pop sees what the statement before it wrote. -/
def State.returnFromInterrupt (s : State) : State :=
  let p1 := s.pop
  let s1 := p1.2.setPc p1.1
  let p2 := s1.pop
  p2.2.setFlags p2.1

end Sys2Proof.Machine
end

