-- ==== Sys2Proof/Machine/Operands.lean ====
section
/-! DEFINITION. The operand forms (spec R37, R54 to R58) and the signed readings and truncation the arithmetic rules
use (R9, R18). The direct form is `State.cell` on the operand byte itself. -/

namespace Sys2Proof.Machine

/-- `s16(w)`: the two's complement value of a 16-bit pattern (R9, R18). -/
def s16 (w : Word) : Int := w.toInt

/-- `s8(b)`: the two's complement value of a byte (R9). -/
def s8 (b : Byte) : Int := b.toInt

/-- `trunc16(n)`: the 16-bit pattern of an integer modulo 2^16 (R9). -/
def trunc16 (n : Int) : Word := BitVec.ofInt 16 n

/-- `sext_16(b)`: the 8-bit literal of MOV 0x23 as a 16-bit pattern (R57). -/
def sext16 (b : Byte) : Word := b.signExtend 16

/-- `x[a][7:0]`: the index an indirect operand selects (R37). -/
def State.indirectIndex (s : State) (a : Byte) : Byte := cellIndex (s.cell a)

/-- `{hi, lo}`: a 16-bit word from two bytes, the more significant first (R8, R42). -/
def wordOfBytes (hi lo : Byte) : Word := hi ++ lo

end Sys2Proof.Machine
end

