-- ==== Sys2Proof/Machine/Flags.lean ====
section
/-! DEFINITION. The flags of cell 2 (spec R23 to R28): reading and writing one bit of it, `UpdateZero` and
`UpdateCarry`, and the three ways an instruction writes a result and then updates flags. -/

namespace Sys2Proof.Machine

/-- The bit of cell 2 a flag is (R23). -/
def Flag.bit : Flag → Nat
  | .zero => 0
  | .carry => 1
  | .ie => 2
  | .hlt => 3

/-- A word with bit `k` replaced by `b` and every other bit kept. -/
def putBit (w : Word) (k : Nat) (b : Bool) : Word :=
  if b then w ||| 1#16 <<< k else w &&& ~~~(1#16 <<< k)

/-- Read one flag (R10). -/
def State.flag (s : State) (f : Flag) : Bool := s.flags.getLsbD f.bit

/-- Assign one flag: only that bit of cell 2 is rewritten (R10, R24). -/
def State.setFlag (s : State) (f : Flag) (b : Bool) : State := s.setFlags (putBit s.flags f.bit b)

/-- `UpdateZero` on a 16-bit pattern (R27). -/
def State.updateZeroWord (s : State) (w : Word) : State := s.setFlag .zero (w == 0#16)

/-- `UpdateZero(n)`: ZERO from the low 16 bits of the value handed to it (R27). -/
def State.updateZero (s : State) (n : Int) : State := s.updateZeroWord (trunc16 n)

/-- `n[19:16] != 0` in the 32-bit two's complement form of `n` (R9, R28). -/
def carryOut (n : Int) : Bool := (BitVec.ofInt 32 n).extractLsb' 16 4 != 0#4

/-- `UpdateCarry(n)` (R28). -/
def State.updateCarry (s : State) (n : Int) : State := s.setFlag .carry (carryOut n)

/-- `is_running()`: HLT is clear (R26, R131). -/
def State.isRunning (s : State) : Bool := !s.flag .hlt

/-- Write a pattern to a cell, then ZERO from it: the logical instructions (R82 to R84, R98 to R100). -/
def State.writeZero (s : State) (a : Byte) (r : Word) : State := (s.setCell a r).updateZeroWord r

/-- Write the truncated intermediate to a cell, then ZERO and CARRY from the intermediate (R74, R75, R85, R101,
R102). -/
def State.writeZeroCarry (s : State) (a : Byte) (n : Int) : State :=
  ((s.setCell a (trunc16 n)).updateZero n).updateCarry n

/-- ZERO, then CARRY, from an intermediate that is not stored: the compares (R95, R96, R103). -/
def State.compareFlags (s : State) (n : Int) : State := (s.updateZero n).updateCarry n

end Sys2Proof.Machine
end

