-- ==== Sys2Proof/Machine/Control.lean ====
section
/-! DEFINITION. The control instructions, opcodes 0x01 to 0x06 (spec 41_control.md). A meaning starts from the state
the fetch leaves: `pc` already holds the address after the instruction (R59). -/

namespace Sys2Proof.Machine

/-- NOP (R68). -/
def execNop (s : State) : Result := .next s

/-- RET: `pc <- pop()` (R69). -/
def execRet (s : State) : Result :=
  let p := s.pop
  .next (p.2.setPc p.1)

/-- RETI: `pc <- pop()`, then `flags <- pop()` (R70). -/
def execReti (s : State) : Result := .next s.returnFromInterrupt

/-- CLI: IE cleared (R71). -/
def execCli (s : State) : Result := .next (s.setFlag .ie false)

/-- STI: IE set (R72). -/
def execSti (s : State) : Result := .next (s.setFlag .ie true)

/-- HLT: HLT set; the step completes, and the next one finds the machine halted (R73). -/
def execHlt (s : State) : Result := .next (s.setFlag .hlt true)

end Sys2Proof.Machine
end

