-- ==== Sys2Proof/Machine/SingleRegister.lean ====
section
/-! DEFINITION. The single-register instructions, opcodes 0x10 to 0x13 (spec 42_single_register.md). -/

namespace Sys2Proof.Machine

/-- INC Ra1 (R74). -/
def execInc (a1 : Byte) (s : State) : Result := .next (s.writeZeroCarry a1 (s16 (s.cell a1) + 1))

/-- DEC Ra1 (R75). -/
def execDec (a1 : Byte) (s : State) : Result := .next (s.writeZeroCarry a1 (s16 (s.cell a1) - 1))

/-- PUSH Ra1: the value is captured before the push (R76). -/
def execPush (a1 : Byte) (s : State) : Result := .next (s.push (s.cell a1))

/-- POP Ra1: the increment of `sp` comes before the write of the destination (R77). -/
def execPop (a1 : Byte) (s : State) : Result :=
  let p := s.pop
  .next (p.2.setCell a1 p.1)

end Sys2Proof.Machine
end

