-- ==== Sys2Proof/Machine/ThreeOperand.lean ====
section
/-! DEFINITION. The three-operand and literal-16 instructions, opcodes 0x40 to 0x48 (spec 44_three_operand.md). A
16-bit literal is the target pattern itself (R58). -/

namespace Sys2Proof.Machine

/-- LPM Ra1, target: the big-endian word at `target`; a target of 0xFFFF raises LpmRangeFault before any read or
write (R97). -/
def execLpm (a1 : Byte) (target : Word) (s : State) : Result :=
  if target = 0xFFFF#16 then .next (s.raise .lpmRangeFault 4 0x40#8)
  else .next (s.setCell a1 (wordOfBytes (s.memRead target) (s.memRead (target + 1#16))))

/-- AND Ra1, target (R98). -/
def execAndLit16 (a1 : Byte) (target : Word) (s : State) : Result := .next (s.writeZero a1 (s.cell a1 &&& target))

/-- OR Ra1, target (R99). -/
def execOrLit16 (a1 : Byte) (target : Word) (s : State) : Result := .next (s.writeZero a1 (s.cell a1 ||| target))

/-- XOR Ra1, target (R100). -/
def execXorLit16 (a1 : Byte) (target : Word) (s : State) : Result := .next (s.writeZero a1 (s.cell a1 ^^^ target))

/-- ADD Ra1, target: ZERO and CARRY, both from the intermediate (R101). -/
def execAddLit16 (a1 : Byte) (target : Word) (s : State) : Result :=
  .next (s.writeZeroCarry a1 (s16 (s.cell a1) + s16 target))

/-- SUB Ra1, target: ZERO and CARRY, both from the intermediate (R102). -/
def execSubLit16 (a1 : Byte) (target : Word) (s : State) : Result :=
  .next (s.writeZeroCarry a1 (s16 (s.cell a1) - s16 target))

/-- CMP Ra1, target (R103). -/
def execCmpLit16 (a1 : Byte) (target : Word) (s : State) : Result :=
  .next (s.compareFlags (s16 (s.cell a1) - s16 target))

/-- INT n, target: register a vector; a number of 32 or more has no effect (R104; 90_conflicts.md C2). -/
def execInt (n : Byte) (target : Word) (s : State) : Result :=
  if hn : n.toNat < Config.ivtEntries then .next (s.ivtWrite ⟨n.toNat, hn⟩ target) else .next s

/-- MOV Ra1, target (R105). -/
def execMovLit16 (a1 : Byte) (target : Word) (s : State) : Result := .next (s.setCell a1 target)

end Sys2Proof.Machine
end

