-- ==== Sys2Proof/Machine/TwoOperand.lean ====
section
/-! DEFINITION. The two-register, register-literal and jump instructions, opcodes 0x20 to 0x32 (spec
43_two_operand.md). Every operand is read before the destination is written (R11). -/

namespace Sys2Proof.Machine

/-! ### Data movement -/

/-- MOV Ra1, Ra2 (R78). -/
def execMovRR (a1 a2 : Byte) (s : State) : Result := .next (s.setCell a1 (s.cell a2))

/-- MOV Ra1, [Ra2] (R79). -/
def execMovLoad (a1 a2 : Byte) (s : State) : Result := .next (s.setCell a1 (s.cell (s.indirectIndex a2)))

/-- MOV [Ra1], Ra2 (R80). -/
def execMovStore (a1 a2 : Byte) (s : State) : Result := .next (s.setCell (s.indirectIndex a1) (s.cell a2))

/-- MOV Ra1, L (R81). -/
def execMovLit8 (a1 lit : Byte) (s : State) : Result := .next (s.setCell a1 (sext16 lit))

/-! ### Logic -/

/-- AND Ra1, Ra2 (R82). -/
def execAndRR (a1 a2 : Byte) (s : State) : Result := .next (s.writeZero a1 (s.cell a1 &&& s.cell a2))

/-- OR Ra1, Ra2 (R83). -/
def execOrRR (a1 a2 : Byte) (s : State) : Result := .next (s.writeZero a1 (s.cell a1 ||| s.cell a2))

/-- XOR Ra1, Ra2 (R84). -/
def execXorRR (a1 a2 : Byte) (s : State) : Result := .next (s.writeZero a1 (s.cell a1 ^^^ s.cell a2))

/-! ### Arithmetic -/

/-- MUL Ra1, Ra2: the exact product of the signed values, its low half kept (R85). -/
def execMulRR (a1 a2 : Byte) (s : State) : Result := .next (s.writeZeroCarry a1 (s16 (s.cell a1) * s16 (s.cell a2)))

/-- DIV Ra1, Ra2: the signed quotient truncated toward zero, written modulo 2^16, then ZERO from the cell; a divisor
of 0 raises DivideByZero before anything is written (R86). -/
def execDivRR (a1 a2 : Byte) (s : State) : Result :=
  if s16 (s.cell a2) = 0 then .next (s.raise .divideByZero 3 0x28#8)
  else
    let s1 := s.setCell a1 (trunc16 (Int.tdiv (s16 (s.cell a1)) (s16 (s.cell a2))))
    .next (s1.updateZeroWord (s1.cell a1))

/-- ADD Ra1, Ra2: CARRY only (R87). -/
def execAddRR (a1 a2 : Byte) (s : State) : Result :=
  let n := s16 (s.cell a1) + s16 (s.cell a2)
  .next ((s.setCell a1 (trunc16 n)).updateCarry n)

/-- SUB Ra1, Ra2: CARRY from the difference, then ZERO from the destination cell read again (R88). -/
def execSubRR (a1 a2 : Byte) (s : State) : Result :=
  let n := s16 (s.cell a1) - s16 (s.cell a2)
  let s1 := (s.setCell a1 (trunc16 n)).updateCarry n
  .next (s1.updateZeroWord (s1.cell a1))

/-! ### Control transfer -/

/-- JMP target (R89). -/
def execJmp (target : Word) (s : State) : Result := .next (s.setPc target)

/-- CALL target: push the fall-through address, then jump (R90). -/
def execCall (target : Word) (s : State) : Result := .next ((s.push s.pc).setPc target)

/-- JE target: jump if ZERO is set (R91). -/
def execJe (target : Word) (s : State) : Result := .next (if s.flag .zero then s.setPc target else s)

/-- JNE target: jump if ZERO is clear (R92). -/
def execJne (target : Word) (s : State) : Result := .next (if s.flag .zero then s else s.setPc target)

/-- JO target: jump if CARRY is set (R93). -/
def execJo (target : Word) (s : State) : Result := .next (if s.flag .carry then s.setPc target else s)

/-- JNO target: jump if CARRY is clear (R94). -/
def execJno (target : Word) (s : State) : Result := .next (if s.flag .carry then s else s.setPc target)

/-! ### Compare -/

/-- CMP Ra1, Ra2 (R95). -/
def execCmpRR (a1 a2 : Byte) (s : State) : Result := .next (s.compareFlags (s16 (s.cell a1) - s16 (s.cell a2)))

/-- CMP Ra1, L (R96). -/
def execCmpLit8 (a1 lit : Byte) (s : State) : Result := .next (s.compareFlags (s16 (s.cell a1) - s8 lit))

end Sys2Proof.Machine
end

