-- ==== Sys2Proof/Machine/Unassigned.lean ====
section
/-! DEFINITION. The unassigned and the undecodable opcodes (spec 45_unassigned.md). Each row of the opcode table has a
definition of its own, over two shared operations. -/

namespace Sys2Proof.Machine

/-- What an unassigned opcode does once its bytes are consumed: nothing (R62, R106 to R109). -/
def State.noAction (s : State) : State := s

/-- What an opcode of 0x50 to 0xFF does: DecodeFault, with only its opcode byte fetched (R63, R110). -/
def State.decodeFault (s : State) (op : Byte) : State := s.raise .decodeFault 1 op

/-- Opcode 0x00 (R106). -/
def execUnassigned00 (s : State) : Result := .next s.noAction

/-- Opcode 0x07 (R106). -/
def execUnassigned07 (s : State) : Result := .next s.noAction

/-- Opcode 0x08 (R106). -/
def execUnassigned08 (s : State) : Result := .next s.noAction

/-- Opcode 0x09 (R106). -/
def execUnassigned09 (s : State) : Result := .next s.noAction

/-- Opcode 0x0A (R106). -/
def execUnassigned0A (s : State) : Result := .next s.noAction

/-- Opcode 0x0B (R106). -/
def execUnassigned0B (s : State) : Result := .next s.noAction

/-- Opcode 0x0C (R106). -/
def execUnassigned0C (s : State) : Result := .next s.noAction

/-- Opcode 0x0D (R106). -/
def execUnassigned0D (s : State) : Result := .next s.noAction

/-- Opcode 0x0E (R106). -/
def execUnassigned0E (s : State) : Result := .next s.noAction

/-- Opcode 0x0F (R106). -/
def execUnassigned0F (s : State) : Result := .next s.noAction

/-- Opcode 0x14 (R107). -/
def execUnassigned14 (_a1 : Byte) (s : State) : Result := .next s.noAction

/-- Opcode 0x15 (R107). -/
def execUnassigned15 (_a1 : Byte) (s : State) : Result := .next s.noAction

/-- Opcode 0x16 (R107). -/
def execUnassigned16 (_a1 : Byte) (s : State) : Result := .next s.noAction

/-- Opcode 0x17 (R107). -/
def execUnassigned17 (_a1 : Byte) (s : State) : Result := .next s.noAction

/-- Opcode 0x18 (R107). -/
def execUnassigned18 (_a1 : Byte) (s : State) : Result := .next s.noAction

/-- Opcode 0x19 (R107). -/
def execUnassigned19 (_a1 : Byte) (s : State) : Result := .next s.noAction

/-- Opcode 0x1A (R107). -/
def execUnassigned1A (_a1 : Byte) (s : State) : Result := .next s.noAction

/-- Opcode 0x1B (R107). -/
def execUnassigned1B (_a1 : Byte) (s : State) : Result := .next s.noAction

/-- Opcode 0x1C (R107). -/
def execUnassigned1C (_a1 : Byte) (s : State) : Result := .next s.noAction

/-- Opcode 0x1D (R107). -/
def execUnassigned1D (_a1 : Byte) (s : State) : Result := .next s.noAction

/-- Opcode 0x1E (R107). -/
def execUnassigned1E (_a1 : Byte) (s : State) : Result := .next s.noAction

/-- Opcode 0x1F (R107). -/
def execUnassigned1F (_a1 : Byte) (s : State) : Result := .next s.noAction

/-- Opcode 0x33 (R108). -/
def execUnassigned33 (_a1 : Byte) (_a2 : Byte) (s : State) : Result := .next s.noAction

/-- Opcode 0x34 (R108). -/
def execUnassigned34 (_a1 : Byte) (_a2 : Byte) (s : State) : Result := .next s.noAction

/-- Opcode 0x35 (R108). -/
def execUnassigned35 (_a1 : Byte) (_a2 : Byte) (s : State) : Result := .next s.noAction

/-- Opcode 0x36 (R108). -/
def execUnassigned36 (_a1 : Byte) (_a2 : Byte) (s : State) : Result := .next s.noAction

/-- Opcode 0x37 (R108). -/
def execUnassigned37 (_a1 : Byte) (_a2 : Byte) (s : State) : Result := .next s.noAction

/-- Opcode 0x38 (R108). -/
def execUnassigned38 (_a1 : Byte) (_a2 : Byte) (s : State) : Result := .next s.noAction

/-- Opcode 0x39 (R108). -/
def execUnassigned39 (_a1 : Byte) (_a2 : Byte) (s : State) : Result := .next s.noAction

/-- Opcode 0x3A (R108). -/
def execUnassigned3A (_a1 : Byte) (_a2 : Byte) (s : State) : Result := .next s.noAction

/-- Opcode 0x3B (R108). -/
def execUnassigned3B (_a1 : Byte) (_a2 : Byte) (s : State) : Result := .next s.noAction

/-- Opcode 0x3C (R108). -/
def execUnassigned3C (_a1 : Byte) (_a2 : Byte) (s : State) : Result := .next s.noAction

/-- Opcode 0x3D (R108). -/
def execUnassigned3D (_a1 : Byte) (_a2 : Byte) (s : State) : Result := .next s.noAction

/-- Opcode 0x3E (R108). -/
def execUnassigned3E (_a1 : Byte) (_a2 : Byte) (s : State) : Result := .next s.noAction

/-- Opcode 0x3F (R108). -/
def execUnassigned3F (_a1 : Byte) (_a2 : Byte) (s : State) : Result := .next s.noAction

/-- Opcode 0x49 (R109). -/
def execUnassigned49 (_a1 : Byte) (_a2 : Byte) (_a3 : Byte) (s : State) : Result := .next s.noAction

/-- Opcode 0x4A (R109). -/
def execUnassigned4A (_a1 : Byte) (_a2 : Byte) (_a3 : Byte) (s : State) : Result := .next s.noAction

/-- Opcode 0x4B (R109). -/
def execUnassigned4B (_a1 : Byte) (_a2 : Byte) (_a3 : Byte) (s : State) : Result := .next s.noAction

/-- Opcode 0x4C (R109). -/
def execUnassigned4C (_a1 : Byte) (_a2 : Byte) (_a3 : Byte) (s : State) : Result := .next s.noAction

/-- Opcode 0x4D (R109). -/
def execUnassigned4D (_a1 : Byte) (_a2 : Byte) (_a3 : Byte) (s : State) : Result := .next s.noAction

/-- Opcode 0x4E (R109). -/
def execUnassigned4E (_a1 : Byte) (_a2 : Byte) (_a3 : Byte) (s : State) : Result := .next s.noAction

/-- Opcode 0x4F (R109). -/
def execUnassigned4F (_a1 : Byte) (_a2 : Byte) (_a3 : Byte) (s : State) : Result := .next s.noAction

/-- Opcodes 0x50 to 0x5F (R110). -/
def execIllegal50 (op : Byte) (s : State) : Result := .next (s.decodeFault op)

/-- Opcodes 0x60 to 0x7F (R110). -/
def execIllegal60 (op : Byte) (s : State) : Result := .next (s.decodeFault op)

/-- Opcodes 0x80 to 0xFF (R110). -/
def execIllegal80 (op : Byte) (s : State) : Result := .next (s.decodeFault op)

end Sys2Proof.Machine
end

