-- ==== Sys2Proof/Machine/Dispatch.lean ====
section
/-! DEFINITION. `Execute` of spec R59: exactly one meaning for each instruction (R60). -/

namespace Sys2Proof.Machine

def exec (i : Instr) (s : State) : Host.Outcome State Fault Refusal :=
  match i with
  | .unassigned00 => Sys2Proof.Machine.execUnassigned00 s
  | .nop => Sys2Proof.Machine.execNop s
  | .ret => Sys2Proof.Machine.execRet s
  | .reti => Sys2Proof.Machine.execReti s
  | .cli => Sys2Proof.Machine.execCli s
  | .sti => Sys2Proof.Machine.execSti s
  | .hlt => Sys2Proof.Machine.execHlt s
  | .unassigned07 => Sys2Proof.Machine.execUnassigned07 s
  | .unassigned08 => Sys2Proof.Machine.execUnassigned08 s
  | .unassigned09 => Sys2Proof.Machine.execUnassigned09 s
  | .unassigned0A => Sys2Proof.Machine.execUnassigned0A s
  | .unassigned0B => Sys2Proof.Machine.execUnassigned0B s
  | .unassigned0C => Sys2Proof.Machine.execUnassigned0C s
  | .unassigned0D => Sys2Proof.Machine.execUnassigned0D s
  | .unassigned0E => Sys2Proof.Machine.execUnassigned0E s
  | .unassigned0F => Sys2Proof.Machine.execUnassigned0F s
  | .inc a1 => Sys2Proof.Machine.execInc a1 s
  | .dec a1 => Sys2Proof.Machine.execDec a1 s
  | .push a1 => Sys2Proof.Machine.execPush a1 s
  | .pop a1 => Sys2Proof.Machine.execPop a1 s
  | .unassigned14 a1 => Sys2Proof.Machine.execUnassigned14 a1 s
  | .unassigned15 a1 => Sys2Proof.Machine.execUnassigned15 a1 s
  | .unassigned16 a1 => Sys2Proof.Machine.execUnassigned16 a1 s
  | .unassigned17 a1 => Sys2Proof.Machine.execUnassigned17 a1 s
  | .unassigned18 a1 => Sys2Proof.Machine.execUnassigned18 a1 s
  | .unassigned19 a1 => Sys2Proof.Machine.execUnassigned19 a1 s
  | .unassigned1A a1 => Sys2Proof.Machine.execUnassigned1A a1 s
  | .unassigned1B a1 => Sys2Proof.Machine.execUnassigned1B a1 s
  | .unassigned1C a1 => Sys2Proof.Machine.execUnassigned1C a1 s
  | .unassigned1D a1 => Sys2Proof.Machine.execUnassigned1D a1 s
  | .unassigned1E a1 => Sys2Proof.Machine.execUnassigned1E a1 s
  | .unassigned1F a1 => Sys2Proof.Machine.execUnassigned1F a1 s
  | .movRR a1 a2 => Sys2Proof.Machine.execMovRR a1 a2 s
  | .movLoad a1 a2 => Sys2Proof.Machine.execMovLoad a1 a2 s
  | .movStore a1 a2 => Sys2Proof.Machine.execMovStore a1 a2 s
  | .movLit8 a1 lit => Sys2Proof.Machine.execMovLit8 a1 lit s
  | .andRR a1 a2 => Sys2Proof.Machine.execAndRR a1 a2 s
  | .orRR a1 a2 => Sys2Proof.Machine.execOrRR a1 a2 s
  | .xorRR a1 a2 => Sys2Proof.Machine.execXorRR a1 a2 s
  | .mulRR a1 a2 => Sys2Proof.Machine.execMulRR a1 a2 s
  | .divRR a1 a2 => Sys2Proof.Machine.execDivRR a1 a2 s
  | .addRR a1 a2 => Sys2Proof.Machine.execAddRR a1 a2 s
  | .subRR a1 a2 => Sys2Proof.Machine.execSubRR a1 a2 s
  | .jmp target => Sys2Proof.Machine.execJmp target s
  | .call target => Sys2Proof.Machine.execCall target s
  | .je target => Sys2Proof.Machine.execJe target s
  | .jne target => Sys2Proof.Machine.execJne target s
  | .jo target => Sys2Proof.Machine.execJo target s
  | .jno target => Sys2Proof.Machine.execJno target s
  | .cmpRR a1 a2 => Sys2Proof.Machine.execCmpRR a1 a2 s
  | .cmpLit8 a1 lit => Sys2Proof.Machine.execCmpLit8 a1 lit s
  | .unassigned33 a1 a2 => Sys2Proof.Machine.execUnassigned33 a1 a2 s
  | .unassigned34 a1 a2 => Sys2Proof.Machine.execUnassigned34 a1 a2 s
  | .unassigned35 a1 a2 => Sys2Proof.Machine.execUnassigned35 a1 a2 s
  | .unassigned36 a1 a2 => Sys2Proof.Machine.execUnassigned36 a1 a2 s
  | .unassigned37 a1 a2 => Sys2Proof.Machine.execUnassigned37 a1 a2 s
  | .unassigned38 a1 a2 => Sys2Proof.Machine.execUnassigned38 a1 a2 s
  | .unassigned39 a1 a2 => Sys2Proof.Machine.execUnassigned39 a1 a2 s
  | .unassigned3A a1 a2 => Sys2Proof.Machine.execUnassigned3A a1 a2 s
  | .unassigned3B a1 a2 => Sys2Proof.Machine.execUnassigned3B a1 a2 s
  | .unassigned3C a1 a2 => Sys2Proof.Machine.execUnassigned3C a1 a2 s
  | .unassigned3D a1 a2 => Sys2Proof.Machine.execUnassigned3D a1 a2 s
  | .unassigned3E a1 a2 => Sys2Proof.Machine.execUnassigned3E a1 a2 s
  | .unassigned3F a1 a2 => Sys2Proof.Machine.execUnassigned3F a1 a2 s
  | .lpm a1 target => Sys2Proof.Machine.execLpm a1 target s
  | .andLit16 a1 target => Sys2Proof.Machine.execAndLit16 a1 target s
  | .orLit16 a1 target => Sys2Proof.Machine.execOrLit16 a1 target s
  | .xorLit16 a1 target => Sys2Proof.Machine.execXorLit16 a1 target s
  | .addLit16 a1 target => Sys2Proof.Machine.execAddLit16 a1 target s
  | .subLit16 a1 target => Sys2Proof.Machine.execSubLit16 a1 target s
  | .cmpLit16 a1 target => Sys2Proof.Machine.execCmpLit16 a1 target s
  | .int n target => Sys2Proof.Machine.execInt n target s
  | .movLit16 a1 target => Sys2Proof.Machine.execMovLit16 a1 target s
  | .unassigned49 a1 a2 a3 => Sys2Proof.Machine.execUnassigned49 a1 a2 a3 s
  | .unassigned4A a1 a2 a3 => Sys2Proof.Machine.execUnassigned4A a1 a2 a3 s
  | .unassigned4B a1 a2 a3 => Sys2Proof.Machine.execUnassigned4B a1 a2 a3 s
  | .unassigned4C a1 a2 a3 => Sys2Proof.Machine.execUnassigned4C a1 a2 a3 s
  | .unassigned4D a1 a2 a3 => Sys2Proof.Machine.execUnassigned4D a1 a2 a3 s
  | .unassigned4E a1 a2 a3 => Sys2Proof.Machine.execUnassigned4E a1 a2 a3 s
  | .unassigned4F a1 a2 a3 => Sys2Proof.Machine.execUnassigned4F a1 a2 a3 s
  | .illegal50 op => Sys2Proof.Machine.execIllegal50 op s
  | .illegal60 op => Sys2Proof.Machine.execIllegal60 op s
  | .illegal80 op => Sys2Proof.Machine.execIllegal80 op s

end Sys2Proof.Machine
end

