-- ==== Sys2Proof/Machine/Fetch.lean ====
section
/-! DEFINITION. The fetch-decode stage (spec R59) and the gate that decides whether a step runs at all (R133). -/

namespace Sys2Proof.Machine

/-- Read the byte at `pc` and advance `pc` by one, modulo 2^16 (R20, R21, R59). -/
def State.fetchByte (s : State) : Byte × State := (s.memRead s.pc, s.setPc (s.pc + 1#16))

/-- Read `n` operand bytes, advancing `pc` once for each (R59). -/
def State.fetchOperands (s : State) : Nat → List Byte × State
  | 0 => ([], s)
  | n + 1 =>
    let p := s.fetchByte
    let q := p.2.fetchOperands n
    (p.1 :: q.1, q.2)

/-- The fetch-decode stage (R59): the opcode byte, then as many operand bytes as the opcode's range fixes (R52), and
the state in which the instruction begins to execute, with `pc` at the address after it. -/
def State.fetch (s : State) : Instr × State :=
  let p := s.fetchByte
  let q := p.2.fetchOperands (operandCount p.1)
  (instrOfBytes p.1 q.1, q.2)

/-- What a step answers instead of executing an instruction (R133): the recorded fault, which is looked at first, or
that the machine is halted. -/
def State.stepGate (s : State) : Option Fault :=
  match s.faultCode with
  | .decodeFault => some .decodeFault
  | .divideByZero => some .divideByZero
  | .lpmRangeFault => some .lpmRangeFault
  | .none => if s.isRunning then none else some .halted

end Sys2Proof.Machine
end

