-- ==== Sys2Proof/Machine/Step.lean ====
section
/-! DEFINITION. One step of the machine (spec R59, R133), and how the host's question about one instruction word is
put to it. -/

namespace Sys2Proof.Machine

/-- One `step()`: where the gate lets it run, fetch and decode one instruction and execute it. -/
def step (s : State) : Host.Outcome State Fault Refusal :=
  match s.stepGate with
  | some f => .fault f
  | none => exec s.fetch.1 s.fetch.2

/-- `s` with the instruction of a table word laid down at `pc`, where the next step fetches (log entry 7): four bytes
from `pc` on, modulo 2^16. Nothing else changes; a step of the result runs that instruction whenever `s` is running
and records no fault, as `State.reset` is. -/
def State.withFetchWord (s : State) (nbits w : Nat) : State := s.loadBytes s.pc (tableWordBytes nbits w)

end Sys2Proof.Machine
end

