-- ==== Sys2Proof/Machine/HostPort.lean ====
section
/-! DEFINITION. The block's connections to its host (spec R130): `reset()` as an operation on any state, what a call
of `step()` returns, and the state at the start of a run with given launch parameters. `is_running()` is
`State.isRunning`, the vector-table read port `State.ivtRead`, and the fault status the three fields of the state. -/

namespace Sys2Proof.Machine

/-- `reset()` (R127). Cells 3 to 255 and the instruction stream are not written; `fault_pc` and `fault_opcode`, which
R33 leaves unspecified, are left as they were (log entry 3). -/
def State.hostReset (s : State) : State :=
  { ((s.setPc Config.pcReset).setSp Config.spReset).setFlags Config.flagsReset with
    ivt := Vector.replicate 32 Config.ivtReset
    faultCode := .none }

/-- The state after the first `reset()` of a run with the launch parameters IMEM and INIT_CELLS (R7, R135). The
values before that reset are never read. -/
def State.launch (imem : Memory) (initCells : Vector Word 256) : State :=
  State.hostReset
    { cells := initCells, ivt := Vector.replicate 32 Config.ivtReset, faultCode := .none,
      faultPc := Config.faultPcInit, faultOpcode := Config.faultOpcodeInit, imem := imem }

/-- The numeric code of a fault (R112). -/
def FaultCode.number : FaultCode → Nat
  | .none => 0
  | .decodeFault => 1
  | .divideByZero => 2
  | .lpmRangeFault => 3

/-- What a call of `step()` returns to the host (R132, R133). -/
inductive StepReturn where
  /-- the instruction completed -/
  | ok
  /-- a fault was raised, or was recorded before -/
  | fault (code : FaultCode)
  /-- the machine is halted: no step is taken -/
  | noStep
  deriving DecidableEq, Repr

/-- The fault code a step's fault reports, where there is one. -/
def Fault.code : Fault → Option FaultCode
  | .decodeFault => some .decodeFault
  | .divideByZero => some .divideByZero
  | .lpmRangeFault => some .lpmRangeFault
  | .halted => none

/-- A call of `step()` (R133): the state after it and what it returns. A step that raises a fault answers a next state
whose fault status records it; the host is returned that fault (log entry 4). -/
def State.hostStep (s : State) : State × StepReturn :=
  match step s with
  | .next t => (t, if t.faultCode = .none then .ok else .fault t.faultCode)
  | .fault f => (s, match f.code with | some c => .fault c | none => .noStep)
  | .refused _ => (s, .noStep)

end Sys2Proof.Machine
end

