-- ==== Sys2Proof/Safety.lean ====
section
/-! DEFINITION. The terms in which claims about the machine are stated: when a step can run, how a run ends, the
invariant of the machine, and what an instruction changes. -/

namespace Sys2Proof.Machine

/-! ### Runs -/

/-- A step executes an instruction: no fault is recorded and HLT is clear (R133). -/
def State.Ready (s : State) : Prop := s.faultCode = .none ∧ s.isRunning = true

/-- The successful end of a run: halted, with no fault recorded (R134). -/
def State.EndsWell (s : State) : Prop := s.faultCode = .none ∧ s.isRunning = false

/-! ### The invariant -/

/-- The fault status tells the truth about the instruction that raised it (R112, R113): the byte at `fault_pc` is the
opcode recorded, it is one that can raise this fault, its operand bytes are those of the fault's cause, `pc` is the
address after the bytes fetched, and the machine is not halted. -/
def State.FaultConsistent (s : State) : Prop :=
  match s.faultCode with
  | .none => True
  | .decodeFault =>
    s.memRead s.faultPc = s.faultOpcode ∧ 0x50 ≤ s.faultOpcode.toNat ∧ s.pc = s.faultPc + 1#16 ∧ s.isRunning = true
  | .divideByZero =>
    s.memRead s.faultPc = s.faultOpcode ∧ s.faultOpcode = 0x28#8 ∧ s.cell (s.memRead (s.faultPc + 2#16)) = 0#16 ∧
      s.pc = s.faultPc + 3#16 ∧ s.isRunning = true
  | .lpmRangeFault =>
    s.memRead s.faultPc = s.faultOpcode ∧ s.faultOpcode = 0x40#8 ∧ s.memRead (s.faultPc + 2#16) = 0xFF#8 ∧
      s.memRead (s.faultPc + 3#16) = 0xFF#8 ∧ s.pc = s.faultPc + 4#16 ∧ s.isRunning = true

/-- The invariant of the machine: the instruction stream is in canonical form and the fault status tells the truth. -/
def State.Inv (s : State) : Prop := s.imem.wf ∧ s.FaultConsistent

/-! ### What an instruction changes -/

/-- Everything but the cells is as it was: the vector table, the fault status, and every byte of the instruction
stream. -/
def RestUnchanged (s t : State) : Prop :=
  (∀ n, t.ivtRead n = s.ivtRead n) ∧ t.faultCode = s.faultCode ∧ t.faultPc = s.faultPc ∧
    t.faultOpcode = s.faultOpcode ∧ ∀ a, t.memRead a = s.memRead a

/-- `t` is `s` after an instruction writes `r` to cell `dst` (to no cell, where `dst` is `none`) and then sets ZERO to
`z` and CARRY to `c` (leaving a flag alone where it is `none`): every cell but the flags, every bit of the flags, and
the rest of the machine. A destination of cell 2 gives the flags all of `r` before the two flags are set (R23, R25,
R139). -/
def WritesResult (s t : State) (dst : Option Byte) (r : Word) (z c : Option Bool) : Prop :=
  (∀ i, i ≠ 2#8 → t.cell i = if dst = some i then r else s.cell i) ∧
  (∀ k, t.flags.getLsbD k =
    let base := (if dst = some 2#8 then r else s.flags).getLsbD k
    if k = 0 then z.getD base else if k = 1 then c.getD base else base) ∧
  RestUnchanged s t

/-- Two states that a program cannot tell apart: the same cells, the same fault code, the same instruction stream.
They may differ in the vector table and in the two recorded fields of the fault status. -/
def SameForPrograms (s t : State) : Prop :=
  (∀ i, t.cell i = s.cell i) ∧ t.faultCode = s.faultCode ∧ ∀ a, t.memRead a = s.memRead a

end Sys2Proof.Machine
end

