-- ==== Sys2Proof/Certificates/Slice0/Obligations.lean ====
section
/-! DEFINITION. The statements for the provers. `RestUnchanged` and `WritesResult` (Sys2Proof/Safety.lean) say the
frame: what an instruction leaves as it was. A statement that rests on a decision of the spec
(92_eei_decisions.md) names it. -/

open Sys2Proof
open Sys2Proof.Machine

/-- R52, R53, R55, R61: for every instruction, with every operand at every value its encoding admits. -/
def Obligations.DecodeOfEncodeIsTheInstruction : Prop :=
  ∀ i : Instr, i.WellFormed → ∀ rest : List Byte, decode (encode i ++ rest) = .ok (i, rest)

/-- R53, R60, R61: the other direction of the round trip. -/
def Obligations.EncodeOfDecodeIsTheBytes : Prop :=
  ∀ (bytes : List Byte) (i : Instr) (rest : List Byte),
    decode bytes = .ok (i, rest) → bytes = encode i ++ rest ∧ i.WellFormed

/-- R52, clause by clause of its table, for opcodes below 0x50. The last clause is not R52's, which calls the count of
those opcodes undefined: that only the opcode byte is taken is R63's, by the spec's decision D10 (log entry 12), and the
terms for an illegal opcode are the model's (log entry 8). -/
def Obligations.LengthIsFixedByOpcodeRange : Prop :=
  ∀ (op a1 a2 a3 : Byte) (rest : List Byte),
    (op.toNat < 0x10 → ∃ i, i.length = 1 ∧ decode (op :: rest) = .ok (i, rest)) ∧
    (0x10 ≤ op.toNat ∧ op.toNat < 0x20 → ∃ i, i.length = 2 ∧ decode (op :: a1 :: rest) = .ok (i, rest)) ∧
    (0x20 ≤ op.toNat ∧ op.toNat < 0x40 → ∃ i, i.length = 3 ∧
      decode (op :: a1 :: a2 :: rest) = .ok (i, rest)) ∧
    (0x40 ≤ op.toNat ∧ op.toNat < 0x50 → ∃ i, i.length = 4 ∧
      decode (op :: a1 :: a2 :: a3 :: rest) = .ok (i, rest)) ∧
    (0x50 ≤ op.toNat → ∃ i ∈ [Instr.illegal50 op, .illegal60 op, .illegal80 op],
      decode (op :: rest) = .ok (i, rest))

/-- A word of each family decodes to the instruction it stands for -/
def Obligations.SampleWordsDecode : Prop :=
  [[0x06#8], [0x10#8, 0x03#8], [0x22#8, 0x06#8, 0x05#8], [0x27#8, 0x03#8, 0x04#8], [0x2C#8, 0x00#8, 0x14#8],
   [0x32#8, 0x03#8, 0x01#8], [0x40#8, 0x03#8, 0x00#8, 0x10#8], [0x47#8, 0x02#8, 0x00#8, 0x10#8],
   [0x3F#8, 0x03#8, 0x04#8], [0xFF#8]].map decode =
  [.ok (.hlt, []), .ok (.inc 3#8, []), .ok (.movStore 6#8 5#8, []), .ok (.mulRR 3#8 4#8, []),
   .ok (.call 0x0014#16, []), .ok (.cmpLit8 3#8 1#8, []), .ok (.lpm 3#8 0x0010#16, []),
   .ok (.int 2#8 0x0010#16, []), .ok (.unassigned3F 3#8 4#8, []), .ok (.illegal80 0xFF#8, [])]

/-- R20, R21, R59, R60. The length of an illegal opcode is 1: only its opcode byte is fetched (R110). -/
def Obligations.StepRunsTheDecodedInstruction : Prop :=
  ∀ (s : State) (i : Instr) (rest : List Byte), s.faultCode = .none → s.isRunning = true →
    decode [s.memRead s.pc, s.memRead (s.pc + 1#16), s.memRead (s.pc + 2#16), s.memRead (s.pc + 3#16)] =
      .ok (i, rest) →
    step s = exec i (s.setPc (s.pc + BitVec.ofNat 16 i.length))

/-- R36 (the instruction stream is total), R59, R61 (every opcode value has a rule), R133. This is not R132's
completion: that a step which raises DecodeFault, DivideByZero or LpmRangeFault answers a next state too, one that records the
fault, is the model's choice (log entry 4). A step completes, with Ok, where that state records no fault:
`HostStepReturnsWhatTheSpecSays` and `FaultsHaveExactlyTheirCauses` say where. -/
def Obligations.RunningMachineCompletesEveryStep : Prop :=
  (∀ s : State, s.faultCode = .none → s.isRunning = true → ∃ t, step s = .next t) ∧
    ∀ (s : State) (r : Refusal), step s ≠ .refused r

/-- R132, R133, which rest on the spec's decisions D14 and D15. That a raising step answers a next state is the
model's form (log entry 4). -/
def Obligations.HostStepReturnsWhatTheSpecSays : Prop :=
  ∀ s : State,
    (s.faultCode ≠ .none → s.hostStep = (s, .fault s.faultCode)) ∧
    (s.faultCode = .none → s.isRunning = false → s.hostStep = (s, .noStep)) ∧
    (s.faultCode = .none → s.isRunning = true → ∃ t, step s = .next t ∧
      s.hostStep = (t, if t.faultCode = .none then .ok else .fault t.faultCode))

/-- R114, R126, R127, R129, R133 (the spec's decisions D14 and D15). That the step of a faulted or halted machine
answers the fault outcome is the model's form (log entries 4 and 5). -/
def Obligations.OnlyResetEndsAFaultOrAHalt : Prop :=
  ∀ s : State, ¬ (s.faultCode = .none ∧ s.isRunning = true) →
    (∃ f, step s = .fault f) ∧ s.hostStep.1 = s ∧
      s.hostReset.faultCode = .none ∧ s.hostReset.isRunning = true

/-- R62, R68, R106 to R109, for a whole step: fetch and dispatch. -/
def Obligations.NoOperationStepOnlyMovesThePc : Prop :=
  ∀ s : State, s.faultCode = .none → s.isRunning = true →
    (((s.memRead s.pc).toNat = 0x00 ∨ (s.memRead s.pc).toNat = 0x01 ∨
        (0x07 ≤ (s.memRead s.pc).toNat ∧ (s.memRead s.pc).toNat ≤ 0x0F)) →
      step s = .next (s.setCell 0#8 (s.pc + 1#16))) ∧
    ((0x14 ≤ (s.memRead s.pc).toNat ∧ (s.memRead s.pc).toNat ≤ 0x1F) →
      step s = .next (s.setCell 0#8 (s.pc + 2#16))) ∧
    ((0x33 ≤ (s.memRead s.pc).toNat ∧ (s.memRead s.pc).toNat ≤ 0x3F) →
      step s = .next (s.setCell 0#8 (s.pc + 3#16))) ∧
    ((0x49 ≤ (s.memRead s.pc).toNat ∧ (s.memRead s.pc).toNat ≤ 0x4F) →
      step s = .next (s.setCell 0#8 (s.pc + 4#16)))

/-- R63, R110, R112, R113, which rest on the spec's decisions D10 and D14. That the raising step answers a next state is
the model's form (log entry 4). -/
def Obligations.IllegalOpcodeStepRaisesDecodeFault : Prop :=
  ∀ s : State, s.faultCode = .none → s.isRunning = true → 0x50 ≤ (s.memRead s.pc).toNat →
    ∃ t, step s = .next t ∧ s.hostStep = (t, .fault .decodeFault) ∧
      t.faultCode = .decodeFault ∧ t.faultPc = s.pc ∧ t.faultOpcode = s.memRead s.pc ∧
      (∀ i, t.cell i = if i = 0#8 then s.pc + 1#16 else s.cell i) ∧
      (∀ n, t.ivtRead n = s.ivtRead n) ∧ ∀ a, t.memRead a = s.memRead a

/-- R113 (the spec's decision D14), for every step of every state. That fault_pc is the opcode's address also shows
log entry 6 right. A raising step answers a next state by log entry 4. -/
def Obligations.FaultsArePrecise : Prop :=
  ∀ s t : State, step s = .next t → t.faultCode ≠ .none →
    (∀ i, i ≠ 0#8 → t.cell i = s.cell i) ∧ (∀ n, t.ivtRead n = s.ivtRead n) ∧
    (∀ a, t.memRead a = s.memRead a) ∧ t.faultPc = s.pc ∧ t.faultOpcode = s.memRead s.pc ∧
    (t.faultCode = .decodeFault → t.pc = s.pc + 1#16) ∧
    (t.faultCode = .divideByZero → t.pc = s.pc + 3#16) ∧
    (t.faultCode = .lpmRangeFault → t.pc = s.pc + 4#16)

/-- R112, R115 (the spec's decisions D9, D10, D11). That a raising step answers a next state is the model's form (log
entry 4). -/
def Obligations.FaultsHaveExactlyTheirCauses : Prop :=
  ∀ s t : State, step s = .next t →
    (t.faultCode = .decodeFault ↔ 0x50 ≤ (s.memRead s.pc).toNat) ∧
    (t.faultCode = .divideByZero ↔ s.memRead s.pc = 0x28#8 ∧
      (s.setCell 0#8 (s.pc + 3#16)).cell (s.memRead (s.pc + 2#16)) = 0#16) ∧
    (t.faultCode = .lpmRangeFault ↔ s.memRead s.pc = 0x40#8 ∧
      s.memRead (s.pc + 2#16) = 0xFF#8 ∧ s.memRead (s.pc + 3#16) = 0xFF#8)

/-- R36, R112, R113: `State.Inv` says it in full. The record of a fault is the spec's decision D14; the list of
bytes is the model's form (log entry 1). -/
def Obligations.StepKeepsTheInvariant : Prop :=
  ∀ s t : State, s.Inv → step s = .next t → t.Inv

/-- R33, R127, R135. -/
def Obligations.ResetMeetsTheInvariant : Prop :=
  State.reset.Inv ∧
    (∀ (imem : Memory) (init : Vector Word 256), imem.wf → (State.launch imem init).Inv) ∧
    ∀ s : State, s.imem.wf → s.hostReset.Inv

/-- R36: IMEM is a total function. The representation is the model's (log entry 1). -/
def Obligations.CanonicalStreamIsDeterminedByItsBytes : Prop :=
  ∀ m n : Memory, m.wf → n.wf → (∀ a : Word, m.read a.toNat = n.read a.toNat) → m = n

/-- R7, R36, D8: the launch parameter IMEM is any total function; the value unlisted bytes read as is no restriction
on it (log entry 1). -/
def Obligations.EveryStreamIsRepresented : Prop :=
  ∀ f : Word → Byte, ∃ m : Memory, m.wf ∧ ∀ a : Word, m.read a.toNat = f a

/-- R35, R36, R50: the instruction stream is read-only to the block. -/
def Obligations.NoStepWritesTheInstructionStream : Prop :=
  ∀ s t : State, step s = .next t → ∀ a : Word, t.memRead a = s.memRead a

/-- R30, R104: of a step, only INT writes the table. -/
def Obligations.OnlyIntWritesTheVectorTable : Prop :=
  ∀ s t : State, step s = .next t → ∀ n : Fin 32,
    t.ivtRead n =
      if s.memRead s.pc = 0x47#8 ∧ (s.memRead (s.pc + 1#16)).toNat = n.val then
        s.memRead (s.pc + 2#16) ++ s.memRead (s.pc + 3#16)
      else s.ivtRead n

/-- R30 (no instruction reads the vector table), R31 (no instruction reads the fault status), R111. -/
def Obligations.ProgramsCannotSeeVectorsOrFaultRecords : Prop :=
  ∀ s s' : State, SameForPrograms s s' →
    (∀ t, step s = .next t → ∃ t', step s' = .next t' ∧ SameForPrograms t t') ∧
    ∀ f, step s = .fault f → step s' = .fault f

/-- 95_test_vectors.md P-1 with its table of flags, for two executions with NO FETCH BETWEEN THEM. In a run a fetch
stands between and moves the program counter (R20, R59), so of a run this says nothing for cell 0. It fails for the
flags register, whose bits the updates overwrite; `IncAndDecResults` covers that cell. -/
def Obligations.IncThenDecRestoresTheCell : Prop :=
  ∀ (s : State) (a1 : Byte), a1 ≠ 2#8 → ∃ t u, exec (.inc a1) s = .next t ∧ exec (.dec a1) t = .next u ∧
    u.cell a1 = s.cell a1 ∧ u.flag .zero = decide (s.cell a1 = 0#16) ∧
    u.flag .carry = decide (0x7FFF ≤ (s.cell a1).toNat)

/-- 95_test_vectors.md P-2, with the range it gives. -/
def Obligations.PushThenPopMovesTheValue : Prop :=
  ∀ (s : State) (r q : Byte), 3 ≤ (cellIndex s.sp).toNat → 3 ≤ r.toNat → 3 ≤ q.toNat →
    ∃ t u, exec (.push r) s = .next t ∧ exec (.pop q) t = .next u ∧ u.cell q = s.cell r ∧ u.sp = s.sp

/-- 95_test_vectors.md P-5, for two executions with NO FETCH BETWEEN THEM, and so for more cells than that file's
reading (a destination other than 0, 1 and 2): destinations 0 and 1 and operand 0 are here too. In a run a fetch stands
between and moves the program counter (R20, R59), so of a run this says nothing where the destination or the operand is
cell 0. The operand must be the same at both executions, so it is neither the destination nor the flags;
`AddOfRegistersSetsOnlyCarry` and `SubOfRegistersRereadsForZero` cover those operands. -/
def Obligations.AddThenSubRestoresTheCell : Prop :=
  ∀ (s : State) (a1 a2 : Byte), a1 ≠ 2#8 → a2 ≠ 2#8 → a1 ≠ a2 →
    ∃ t u, exec (.addRR a1 a2) s = .next t ∧ exec (.subRR a1 a2) t = .next u ∧ u.cell a1 = s.cell a1

/-- R69, R90. With the stack index in 3 to 255 the program counter, cell 0, is among the cells that are as before.
-/
def Obligations.CallThenRetReturns : Prop :=
  ∀ (s : State) (target : Word), 3 ≤ (cellIndex s.sp).toNat →
    ∃ t u, exec (.call target) s = .next t ∧ exec .ret t = .next u ∧ t.pc = target ∧
      ∀ i, u.cell i = if i = cellIndex s.sp then s.pc else s.cell i

/-- R70, R118, R119. -/
def Obligations.RetiConsumesThePushedFrame : Prop :=
  ∀ (s : State) (f p : Word), 4 ≤ (cellIndex s.sp).toNat →
    ∃ t, exec .reti ((s.push f).push p) = .next t ∧ t.pc = p ∧ t.flags = f ∧ t.sp = s.sp

/-- 95_test_vectors.md P-4. -/
def Obligations.CmpOfACellWithItself : Prop :=
  ∀ (s : State) (a1 : Byte), ∃ t, exec (.cmpRR a1 a1) s = .next t ∧ t.flag .zero = true ∧ t.flag .carry = false ∧
    ∀ i, i ≠ 2#8 → t.cell i = s.cell i

/-- R33, R128, R129. The last clause says which launch State.reset is: the model's choice (log entries 1, 2 and 3).
-/
def Obligations.LaunchedStateHoldsTheResetValues : Prop :=
  (∀ (imem : Memory) (init : Vector Word 256),
    (State.launch imem init).pc = 0x0000#16 ∧ (State.launch imem init).sp = 0x00FC#16 ∧
    (State.launch imem init).flags = 0x0000#16 ∧ (State.launch imem init).isRunning = true ∧
    (∀ n, (State.launch imem init).ivtRead n = 0x0000#16) ∧ (State.launch imem init).faultCode = .none ∧
    (∀ i : Byte, 3 ≤ i.toNat → (State.launch imem init).cell i = init[i.toNat]'i.isLt) ∧
    ∀ a : Word, (State.launch imem init).memRead a = imem.read a.toNat) ∧
  State.reset = State.launch [] (Vector.replicate 256 0x0000#16)

/-- R127. -/
def Obligations.HostResetWritesOnlyWhatItLists : Prop :=
  ∀ s : State,
    (∀ i : Byte, s.hostReset.cell i =
      if i = 0#8 then 0x0000#16 else if i = 1#8 then 0x00FC#16 else if i = 2#8 then 0x0000#16 else s.cell i) ∧
    (∀ n, s.hostReset.ivtRead n = 0x0000#16) ∧ s.hostReset.faultCode = .none ∧
    ∀ a, s.hostReset.memRead a = s.memRead a

/-- R68, R106 to R109, for the execution after the fetch. -/
def Obligations.NopAndUnassignedDoNothing : Prop :=
  ∀ (s : State) (a1 a2 a3 : Byte),
    (∀ i ∈ [Instr.nop, .unassigned00, .unassigned07, .unassigned08, .unassigned09, .unassigned0A, .unassigned0B,
      .unassigned0C, .unassigned0D, .unassigned0E, .unassigned0F],
      exec i s = .next s) ∧
    (∀ i ∈ [Instr.unassigned14 a1, .unassigned15 a1, .unassigned16 a1, .unassigned17 a1, .unassigned18 a1,
      .unassigned19 a1, .unassigned1A a1, .unassigned1B a1, .unassigned1C a1, .unassigned1D a1, .unassigned1E a1,
      .unassigned1F a1],
      exec i s = .next s) ∧
    (∀ i ∈ [Instr.unassigned33 a1 a2, .unassigned34 a1 a2, .unassigned35 a1 a2, .unassigned36 a1 a2,
      .unassigned37 a1 a2, .unassigned38 a1 a2, .unassigned39 a1 a2, .unassigned3A a1 a2, .unassigned3B a1 a2,
      .unassigned3C a1 a2, .unassigned3D a1 a2, .unassigned3E a1 a2, .unassigned3F a1 a2],
      exec i s = .next s) ∧
    (∀ i ∈ [Instr.unassigned49 a1 a2 a3, .unassigned4A a1 a2 a3, .unassigned4B a1 a2 a3, .unassigned4C a1 a2 a3,
      .unassigned4D a1 a2 a3, .unassigned4E a1 a2 a3, .unassigned4F a1 a2 a3],
      exec i s = .next s)

/-- R110, R112, R113 (the spec's decisions D10 and D14). That the execution answers a next state is the model's form
(log entry 4), as are the terms for an illegal opcode (log entry 8). -/
def Obligations.IllegalOpcodesRecordDecodeFault : Prop :=
  ∀ (s : State) (op : Byte), ∀ i ∈ [Instr.illegal50 op, .illegal60 op, .illegal80 op],
    ∃ t, exec i s = .next t ∧ t.faultCode = .decodeFault ∧ t.faultPc = s.pc - 1#16 ∧ t.faultOpcode = op ∧
      (∀ j, t.cell j = s.cell j) ∧ (∀ n, t.ivtRead n = s.ivtRead n) ∧ ∀ a, t.memRead a = s.memRead a

/-- R24, R71, R72. -/
def Obligations.CliAndStiRewriteOnlyIE : Prop :=
  ∀ s : State,
    (∃ t, exec .cli s = .next t ∧
      (∀ k, t.flags.getLsbD k = if k = 2 then false else s.flags.getLsbD k) ∧
      (∀ i, i ≠ 2#8 → t.cell i = s.cell i) ∧
      RestUnchanged s t) ∧
    (∃ t, exec .sti s = .next t ∧
      (∀ k, t.flags.getLsbD k = if k = 2 then true else s.flags.getLsbD k) ∧
      (∀ i, i ≠ 2#8 → t.cell i = s.cell i) ∧
      RestUnchanged s t)

/-- R73: pseudocode, flags, and the corner cases that the machine halts and that IE does not change that. The last
clause is not R73's alone: a halted machine has no transition by R133, the spec's decision D15, and that its step then
answers the fault outcome is the model's form (log entry 5); halting is no fault of R112. -/
def Obligations.HltHaltsTheMachine : Prop :=
  ∀ s : State, ∃ t, exec .hlt s = .next t ∧
      (∀ k, t.flags.getLsbD k = if k = 3 then true else s.flags.getLsbD k) ∧
      (∀ i, i ≠ 2#8 → t.cell i = s.cell i) ∧
      RestUnchanged s t ∧
      t.isRunning = false ∧ (s.faultCode = .none → step t = .fault .halted)

/-- R40, R69 with its corner cases. -/
def Obligations.RetPopsThePc : Prop :=
  ∀ s : State, ∃ t, exec .ret s = .next t ∧
    (∀ i, t.cell i =
      if i = 0#8 then (if cellIndex (s.sp + 1#16) = 1#8 then s.sp + 1#16 else s.cell (cellIndex (s.sp + 1#16)))
      else if i = 1#8 then s.sp + 1#16 else s.cell i) ∧
    RestUnchanged s t

/-- R40, R70 with its corner cases. -/
def Obligations.RetiPopsThePcThenTheFlags : Prop :=
  ∀ s : State, ∃ t, exec .reti s = .next t ∧
    (∀ i, t.cell i =
      if i = 0#8 then (if cellIndex (s.sp + 1#16) = 1#8 then s.sp + 1#16 else s.cell (cellIndex (s.sp + 1#16)))
      else if i = 1#8 then s.sp + 2#16
      else if i = 2#8 then
        (if cellIndex (s.sp + 2#16) = 0#8 then t.pc
         else if cellIndex (s.sp + 2#16) = 1#8 then s.sp + 2#16
         else s.cell (cellIndex (s.sp + 2#16)))
      else s.cell i) ∧
    RestUnchanged s t

/-- R74, R75: the flags as their 'Flags' parts put them, by the old value. Signedness is the spec's decision D2, the
order of effects D4. -/
def Obligations.IncAndDecResults : Prop :=
  ∀ (s : State) (a1 : Byte),
    (∃ t, exec (.inc a1) s = .next t ∧
      WritesResult s t (some a1) (s.cell a1 + 1#16) (some (decide (s.cell a1 = 0xFFFF#16)))
        (some (decide ((s.cell a1).toInt + 1 < 0)))) ∧
    (∃ t, exec (.dec a1) s = .next t ∧
      WritesResult s t (some a1) (s.cell a1 - 1#16) (some (decide (s.cell a1 = 0x0001#16)))
        (some (decide ((s.cell a1).toInt - 1 < 0))))

/-- R39, R76 with its corner cases. -/
def Obligations.PushStoresThroughTheStackPointer : Prop :=
  ∀ (s : State) (a1 : Byte), ∃ t, exec (.push a1) s = .next t ∧
    (∀ i, t.cell i =
      if i = 1#8 then (if cellIndex s.sp = 1#8 then s.cell a1 else s.sp) - 1#16
      else if i = cellIndex s.sp then s.cell a1 else s.cell i) ∧
    RestUnchanged s t

/-- R40, R77 with its corner cases. -/
def Obligations.PopLoadsThroughTheStackPointer : Prop :=
  ∀ (s : State) (a1 : Byte), ∃ t, exec (.pop a1) s = .next t ∧
    (∀ i, t.cell i =
      if i = a1 then (if cellIndex (s.sp + 1#16) = 1#8 then s.sp + 1#16 else s.cell (cellIndex (s.sp + 1#16)))
      else if i = 1#8 then s.sp + 1#16 else s.cell i) ∧
    RestUnchanged s t

/-- R78, R81, R105. -/
def Obligations.MovOfRegisterAndLiterals : Prop :=
  ∀ (s : State) (a1 a2 lit : Byte) (target : Word),
    (∃ t, exec (.movRR a1 a2) s = .next t ∧ WritesResult s t (some a1) (s.cell a2) none none) ∧
    (∃ t, exec (.movLit8 a1 lit) s = .next t ∧ WritesResult s t (some a1) (BitVec.ofInt 16 lit.toInt) none none) ∧
    (∃ t, exec (.movLit16 a1 target) s = .next t ∧ WritesResult s t (some a1) target none none)

/-- R79, R80. The cell stored to is the one `State.indirectIndex` computes, and it is the low 8 bits of the
register. -/
def Obligations.MovThroughARegisterIndex : Prop :=
  ∀ (s : State) (a1 a2 : Byte),
    (∃ t, exec (.movLoad a1 a2) s = .next t ∧
      WritesResult s t (some a1) (s.cell (BitVec.ofNat 8 (s.cell a2).toNat)) none none) ∧
    (∃ t, exec (.movStore a1 a2) s = .next t ∧ s.indirectIndex a1 = BitVec.ofNat 8 (s.cell a1).toNat ∧
      WritesResult s t (some (s.indirectIndex a1)) (s.cell a2) none none)

/-- R82, R83, R84. -/
def Obligations.LogicOfTwoRegisters : Prop :=
  ∀ (s : State) (a1 a2 : Byte),
    (∃ t, exec (.andRR a1 a2) s = .next t ∧
      WritesResult s t (some a1) (s.cell a1 &&& s.cell a2) (some (decide (s.cell a1 &&& s.cell a2 = 0#16))) none) ∧
    (∃ t, exec (.orRR a1 a2) s = .next t ∧
      WritesResult s t (some a1) (s.cell a1 ||| s.cell a2) (some (decide (s.cell a1 ||| s.cell a2 = 0#16))) none) ∧
    (∃ t, exec (.xorRR a1 a2) s = .next t ∧
      WritesResult s t (some a1) (s.cell a1 ^^^ s.cell a2) (some (decide (s.cell a1 ^^^ s.cell a2 = 0#16))) none)

/-- R98, R99, R100. -/
def Obligations.LogicWithALiteral : Prop :=
  ∀ (s : State) (a1 : Byte) (target : Word),
    (∃ t, exec (.andLit16 a1 target) s = .next t ∧
      WritesResult s t (some a1) (s.cell a1 &&& target) (some (decide (s.cell a1 &&& target = 0#16))) none) ∧
    (∃ t, exec (.orLit16 a1 target) s = .next t ∧
      WritesResult s t (some a1) (s.cell a1 ||| target) (some (decide (s.cell a1 ||| target = 0#16))) none) ∧
    (∃ t, exec (.xorLit16 a1 target) s = .next t ∧
      WritesResult s t (some a1) (s.cell a1 ^^^ target) (some (decide (s.cell a1 ^^^ target = 0#16))) none)

/-- R28, R85; the signed reading is the spec's decision D2, ZERO from the truncated product D3. -/
def Obligations.MulKeepsTheLowHalf : Prop :=
  ∀ (s : State) (a1 a2 : Byte), ∃ t, exec (.mulRR a1 a2) s = .next t ∧
    WritesResult s t (some a1) (s.cell a1 * s.cell a2)
      (some (decide (((s.cell a1).toInt * (s.cell a2).toInt) % 65536 = 0)))
      (some (decide (((s.cell a1).toInt * (s.cell a2).toInt) / 65536 % 16 ≠ 0)))

/-- R86; rounding is the spec's decision D12, 'from general knowledge, not in source' (log entry 11). -/
def Obligations.DivTruncatesTowardZero : Prop :=
  ∀ (s : State) (a1 a2 : Byte), s.cell a2 ≠ 0#16 → ∃ t, exec (.divRR a1 a2) s = .next t ∧
    WritesResult s t (some a1) (BitVec.ofInt 16 (Int.tdiv (s.cell a1).toInt (s.cell a2).toInt))
      (some (decide (Int.tdiv (s.cell a1).toInt (s.cell a2).toInt = 0))) none

/-- R86, R112, R113: where DIV traps. That it answers a next state there is the model's form (log entry 4). -/
def Obligations.DivByZeroIsRecorded : Prop :=
  ∀ (s : State) (a1 a2 : Byte), s.cell a2 = 0#16 → ∃ t, exec (.divRR a1 a2) s = .next t ∧
    t.faultCode = .divideByZero ∧ t.faultPc = s.pc - 3#16 ∧ t.faultOpcode = 0x28#8 ∧
    (∀ i, t.cell i = s.cell i) ∧ (∀ n, t.ivtRead n = s.ivtRead n) ∧ ∀ a, t.memRead a = s.memRead a

/-- R25, R87: the asymmetry with the literal form is kept. -/
def Obligations.AddOfRegistersSetsOnlyCarry : Prop :=
  ∀ (s : State) (a1 a2 : Byte), ∃ t, exec (.addRR a1 a2) s = .next t ∧
    WritesResult s t (some a1) (s.cell a1 + s.cell a2) none
      (some (decide ((s.cell a1).toInt + (s.cell a2).toInt < 0)))

/-- R88 with the case of a destination of cell 2. -/
def Obligations.SubOfRegistersRereadsForZero : Prop :=
  ∀ (s : State) (a1 a2 : Byte), ∃ t, exec (.subRR a1 a2) s = .next t ∧
    WritesResult s t (some a1) (s.cell a1 - s.cell a2)
      (some (if a1 = 2#8 then
          decide ((s.cell a1 - s.cell a2) &&& 0xFFFD#16 = 0#16 ∧ ¬ (s.cell a1).toInt < (s.cell a2).toInt)
        else decide (s.cell a1 = s.cell a2)))
      (some (decide ((s.cell a1).toInt < (s.cell a2).toInt)))

/-- R101, R102. -/
def Obligations.AddAndSubOfALiteral : Prop :=
  ∀ (s : State) (a1 : Byte) (target : Word),
    (∃ t, exec (.addLit16 a1 target) s = .next t ∧
      WritesResult s t (some a1) (s.cell a1 + target) (some (decide (s.cell a1 + target = 0#16)))
        (some (decide ((s.cell a1).toInt + target.toInt < 0)))) ∧
    (∃ t, exec (.subLit16 a1 target) s = .next t ∧
      WritesResult s t (some a1) (s.cell a1 - target) (some (decide (s.cell a1 = target)))
        (some (decide ((s.cell a1).toInt < target.toInt))))

/-- R95, R96, R103. -/
def Obligations.ComparesSetZeroAndCarry : Prop :=
  ∀ (s : State) (a1 a2 lit : Byte) (target : Word),
    (∃ t, exec (.cmpRR a1 a2) s = .next t ∧
      WritesResult s t none 0#16 (some (decide (s.cell a1 = s.cell a2)))
        (some (decide ((s.cell a1).toInt < (s.cell a2).toInt)))) ∧
    (∃ t, exec (.cmpLit8 a1 lit) s = .next t ∧
      WritesResult s t none 0#16 (some (decide ((s.cell a1).toInt = lit.toInt)))
        (some (decide ((s.cell a1).toInt < lit.toInt)))) ∧
    (∃ t, exec (.cmpLit16 a1 target) s = .next t ∧
      WritesResult s t none 0#16 (some (decide (s.cell a1 = target)))
        (some (decide ((s.cell a1).toInt < target.toInt))))

/-- R89. -/
def Obligations.JmpSetsThePc : Prop :=
  ∀ (s : State) (target : Word), ∃ t, exec (.jmp target) s = .next t ∧
    (∀ i, t.cell i = if i = 0#8 then target else s.cell i) ∧
      RestUnchanged s t

/-- R39, R90 with its corner cases. -/
def Obligations.CallPushesTheReturnAddress : Prop :=
  ∀ (s : State) (target : Word), ∃ t, exec (.call target) s = .next t ∧
    (∀ i, t.cell i =
      if i = 0#8 then target
      else if i = 1#8 then (if cellIndex s.sp = 1#8 then s.pc else s.sp) - 1#16
      else if i = cellIndex s.sp then s.pc else s.cell i) ∧
    RestUnchanged s t

/-- R91, R92: ZERO is bit 0 of cell 2 as it stands, whoever set it. -/
def Obligations.JumpsOnZero : Prop :=
  ∀ (s : State) (target : Word),
    (∃ t, exec (.je target) s = .next t ∧
      (∀ i, t.cell i = if i = 0#8 then (if (s.cell 2#8).getLsbD 0 = true then target else s.pc) else s.cell i) ∧
      RestUnchanged s t) ∧
    (∃ t, exec (.jne target) s = .next t ∧
      (∀ i, t.cell i = if i = 0#8 then (if (s.cell 2#8).getLsbD 0 = true then s.pc else target) else s.cell i) ∧
      RestUnchanged s t)

/-- R93, R94. -/
def Obligations.JumpsOnCarry : Prop :=
  ∀ (s : State) (target : Word),
    (∃ t, exec (.jo target) s = .next t ∧
      (∀ i, t.cell i = if i = 0#8 then (if (s.cell 2#8).getLsbD 1 = true then target else s.pc) else s.cell i) ∧
      RestUnchanged s t) ∧
    (∃ t, exec (.jno target) s = .next t ∧
      (∀ i, t.cell i = if i = 0#8 then (if (s.cell 2#8).getLsbD 1 = true then s.pc else target) else s.cell i) ∧
      RestUnchanged s t)

/-- R42, R97. Below 0xFFFF the address target + 1 does not leave the 16-bit range. -/
def Obligations.LpmLoadsABigEndianWord : Prop :=
  ∀ (s : State) (a1 : Byte) (target : Word), target ≠ 0xFFFF#16 → ∃ t, exec (.lpm a1 target) s = .next t ∧
    WritesResult s t (some a1)
      (BitVec.ofNat 16 (256 * (s.memRead target).toNat + (s.memRead (target + 1#16)).toNat)) none none

/-- R97, R112, R113: where LPM traps. That it answers a next state there is the model's form (log entry 4). -/
def Obligations.LpmAtTheTopIsRecorded : Prop :=
  ∀ (s : State) (a1 : Byte), ∃ t, exec (.lpm a1 0xFFFF#16) s = .next t ∧
    t.faultCode = .lpmRangeFault ∧ t.faultPc = s.pc - 4#16 ∧ t.faultOpcode = 0x40#8 ∧
    (∀ i, t.cell i = s.cell i) ∧ (∀ n, t.ivtRead n = s.ivtRead n) ∧ ∀ a, t.memRead a = s.memRead a

/-- R104; the bound is that of 90_conflicts.md C2. -/
def Obligations.IntRegistersAVector : Prop :=
  ∀ (s : State) (n : Byte) (target : Word), ∃ t, exec (.int n target) s = .next t ∧
    (∀ k : Fin 32, t.ivtRead k = if k.val = n.toNat then target else s.ivtRead k) ∧
    (32 ≤ n.toNat → t = s) ∧
    (∀ i, t.cell i = s.cell i) ∧ t.faultCode = s.faultCode ∧ t.faultPc = s.faultPc ∧
    t.faultOpcode = s.faultOpcode ∧ ∀ a, t.memRead a = s.memRead a
end

