-- ==== Sys2Proof/Laws/State.lean ====
section
/-! SUPPORT. One lemma for each field and each state update, so that no later proof unfolds a record update; and what
reading a cell, a vector-table entry or an instruction-stream byte gives after each update. -/

namespace Sys2Proof.Machine

/-! ### Fields an update leaves alone -/

@[simp] theorem State.ivt_setCell (s : State) (i : Byte) (v : Word) : (s.setCell i v).ivt = s.ivt := rfl
@[simp] theorem State.faultCode_setCell (s : State) (i : Byte) (v : Word) : (s.setCell i v).faultCode = s.faultCode := rfl
@[simp] theorem State.faultPc_setCell (s : State) (i : Byte) (v : Word) : (s.setCell i v).faultPc = s.faultPc := rfl
@[simp] theorem State.faultOpcode_setCell (s : State) (i : Byte) (v : Word) : (s.setCell i v).faultOpcode = s.faultOpcode := rfl
@[simp] theorem State.imem_setCell (s : State) (i : Byte) (v : Word) : (s.setCell i v).imem = s.imem := rfl

@[simp] theorem State.cells_ivtWrite (s : State) (n : Fin 32) (v : Word) : (s.ivtWrite n v).cells = s.cells := rfl
@[simp] theorem State.faultCode_ivtWrite (s : State) (n : Fin 32) (v : Word) : (s.ivtWrite n v).faultCode = s.faultCode := rfl
@[simp] theorem State.faultPc_ivtWrite (s : State) (n : Fin 32) (v : Word) : (s.ivtWrite n v).faultPc = s.faultPc := rfl
@[simp] theorem State.faultOpcode_ivtWrite (s : State) (n : Fin 32) (v : Word) : (s.ivtWrite n v).faultOpcode = s.faultOpcode := rfl
@[simp] theorem State.imem_ivtWrite (s : State) (n : Fin 32) (v : Word) : (s.ivtWrite n v).imem = s.imem := rfl

@[simp] theorem State.cells_raise (s : State) (c : FaultCode) (k : Nat) (op : Byte) : (s.raise c k op).cells = s.cells := rfl
@[simp] theorem State.ivt_raise (s : State) (c : FaultCode) (k : Nat) (op : Byte) : (s.raise c k op).ivt = s.ivt := rfl
@[simp] theorem State.imem_raise (s : State) (c : FaultCode) (k : Nat) (op : Byte) : (s.raise c k op).imem = s.imem := rfl

@[simp] theorem State.cells_loadByte (s : State) (a : Word) (v : Byte) : (s.loadByte a v).cells = s.cells := rfl
@[simp] theorem State.ivt_loadByte (s : State) (a : Word) (v : Byte) : (s.loadByte a v).ivt = s.ivt := rfl
@[simp] theorem State.faultCode_loadByte (s : State) (a : Word) (v : Byte) : (s.loadByte a v).faultCode = s.faultCode := rfl
@[simp] theorem State.faultPc_loadByte (s : State) (a : Word) (v : Byte) : (s.loadByte a v).faultPc = s.faultPc := rfl
@[simp] theorem State.faultOpcode_loadByte (s : State) (a : Word) (v : Byte) : (s.loadByte a v).faultOpcode = s.faultOpcode := rfl

@[simp] theorem State.ivt_setPc (s : State) (v : Word) : (s.setPc v).ivt = s.ivt := rfl
@[simp] theorem State.faultCode_setPc (s : State) (v : Word) : (s.setPc v).faultCode = s.faultCode := rfl
@[simp] theorem State.faultPc_setPc (s : State) (v : Word) : (s.setPc v).faultPc = s.faultPc := rfl
@[simp] theorem State.faultOpcode_setPc (s : State) (v : Word) : (s.setPc v).faultOpcode = s.faultOpcode := rfl
@[simp] theorem State.imem_setPc (s : State) (v : Word) : (s.setPc v).imem = s.imem := rfl

@[simp] theorem State.ivt_setSp (s : State) (v : Word) : (s.setSp v).ivt = s.ivt := rfl
@[simp] theorem State.faultCode_setSp (s : State) (v : Word) : (s.setSp v).faultCode = s.faultCode := rfl
@[simp] theorem State.faultPc_setSp (s : State) (v : Word) : (s.setSp v).faultPc = s.faultPc := rfl
@[simp] theorem State.faultOpcode_setSp (s : State) (v : Word) : (s.setSp v).faultOpcode = s.faultOpcode := rfl
@[simp] theorem State.imem_setSp (s : State) (v : Word) : (s.setSp v).imem = s.imem := rfl

@[simp] theorem State.ivt_setFlags (s : State) (v : Word) : (s.setFlags v).ivt = s.ivt := rfl
@[simp] theorem State.faultCode_setFlags (s : State) (v : Word) : (s.setFlags v).faultCode = s.faultCode := rfl
@[simp] theorem State.faultPc_setFlags (s : State) (v : Word) : (s.setFlags v).faultPc = s.faultPc := rfl
@[simp] theorem State.faultOpcode_setFlags (s : State) (v : Word) : (s.setFlags v).faultOpcode = s.faultOpcode := rfl
@[simp] theorem State.imem_setFlags (s : State) (v : Word) : (s.setFlags v).imem = s.imem := rfl

@[simp] theorem State.ivt_setFlag (s : State) (f : Flag) (b : Bool) : (s.setFlag f b).ivt = s.ivt := rfl
@[simp] theorem State.faultCode_setFlag (s : State) (f : Flag) (b : Bool) : (s.setFlag f b).faultCode = s.faultCode := rfl
@[simp] theorem State.faultPc_setFlag (s : State) (f : Flag) (b : Bool) : (s.setFlag f b).faultPc = s.faultPc := rfl
@[simp] theorem State.faultOpcode_setFlag (s : State) (f : Flag) (b : Bool) : (s.setFlag f b).faultOpcode = s.faultOpcode := rfl
@[simp] theorem State.imem_setFlag (s : State) (f : Flag) (b : Bool) : (s.setFlag f b).imem = s.imem := rfl

@[simp] theorem State.ivt_push (s : State) (v : Word) : (s.push v).ivt = s.ivt := rfl
@[simp] theorem State.faultCode_push (s : State) (v : Word) : (s.push v).faultCode = s.faultCode := rfl
@[simp] theorem State.faultPc_push (s : State) (v : Word) : (s.push v).faultPc = s.faultPc := rfl
@[simp] theorem State.faultOpcode_push (s : State) (v : Word) : (s.push v).faultOpcode = s.faultOpcode := rfl
@[simp] theorem State.imem_push (s : State) (v : Word) : (s.push v).imem = s.imem := rfl

@[simp] theorem State.ivt_pop (s : State) : (s.pop.2).ivt = s.ivt := rfl
@[simp] theorem State.faultCode_pop (s : State) : (s.pop.2).faultCode = s.faultCode := rfl
@[simp] theorem State.faultPc_pop (s : State) : (s.pop.2).faultPc = s.faultPc := rfl
@[simp] theorem State.faultOpcode_pop (s : State) : (s.pop.2).faultOpcode = s.faultOpcode := rfl
@[simp] theorem State.imem_pop (s : State) : (s.pop.2).imem = s.imem := rfl

@[simp] theorem State.ivt_returnFromInterrupt (s : State) : (s.returnFromInterrupt).ivt = s.ivt := rfl
@[simp] theorem State.faultCode_returnFromInterrupt (s : State) : (s.returnFromInterrupt).faultCode = s.faultCode := rfl
@[simp] theorem State.faultPc_returnFromInterrupt (s : State) : (s.returnFromInterrupt).faultPc = s.faultPc := rfl
@[simp] theorem State.faultOpcode_returnFromInterrupt (s : State) : (s.returnFromInterrupt).faultOpcode = s.faultOpcode := rfl
@[simp] theorem State.imem_returnFromInterrupt (s : State) : (s.returnFromInterrupt).imem = s.imem := rfl

@[simp] theorem State.ivt_updateZeroWord (s : State) (w : Word) : (s.updateZeroWord w).ivt = s.ivt := rfl
@[simp] theorem State.faultCode_updateZeroWord (s : State) (w : Word) : (s.updateZeroWord w).faultCode = s.faultCode := rfl
@[simp] theorem State.faultPc_updateZeroWord (s : State) (w : Word) : (s.updateZeroWord w).faultPc = s.faultPc := rfl
@[simp] theorem State.faultOpcode_updateZeroWord (s : State) (w : Word) : (s.updateZeroWord w).faultOpcode = s.faultOpcode := rfl
@[simp] theorem State.imem_updateZeroWord (s : State) (w : Word) : (s.updateZeroWord w).imem = s.imem := rfl

@[simp] theorem State.ivt_updateZero (s : State) (n : Int) : (s.updateZero n).ivt = s.ivt := rfl
@[simp] theorem State.faultCode_updateZero (s : State) (n : Int) : (s.updateZero n).faultCode = s.faultCode := rfl
@[simp] theorem State.faultPc_updateZero (s : State) (n : Int) : (s.updateZero n).faultPc = s.faultPc := rfl
@[simp] theorem State.faultOpcode_updateZero (s : State) (n : Int) : (s.updateZero n).faultOpcode = s.faultOpcode := rfl
@[simp] theorem State.imem_updateZero (s : State) (n : Int) : (s.updateZero n).imem = s.imem := rfl

@[simp] theorem State.ivt_updateCarry (s : State) (n : Int) : (s.updateCarry n).ivt = s.ivt := rfl
@[simp] theorem State.faultCode_updateCarry (s : State) (n : Int) : (s.updateCarry n).faultCode = s.faultCode := rfl
@[simp] theorem State.faultPc_updateCarry (s : State) (n : Int) : (s.updateCarry n).faultPc = s.faultPc := rfl
@[simp] theorem State.faultOpcode_updateCarry (s : State) (n : Int) : (s.updateCarry n).faultOpcode = s.faultOpcode := rfl
@[simp] theorem State.imem_updateCarry (s : State) (n : Int) : (s.updateCarry n).imem = s.imem := rfl

@[simp] theorem State.ivt_writeZero (s : State) (a : Byte) (r : Word) : (s.writeZero a r).ivt = s.ivt := rfl
@[simp] theorem State.faultCode_writeZero (s : State) (a : Byte) (r : Word) : (s.writeZero a r).faultCode = s.faultCode := rfl
@[simp] theorem State.faultPc_writeZero (s : State) (a : Byte) (r : Word) : (s.writeZero a r).faultPc = s.faultPc := rfl
@[simp] theorem State.faultOpcode_writeZero (s : State) (a : Byte) (r : Word) : (s.writeZero a r).faultOpcode = s.faultOpcode := rfl
@[simp] theorem State.imem_writeZero (s : State) (a : Byte) (r : Word) : (s.writeZero a r).imem = s.imem := rfl

@[simp] theorem State.ivt_writeZeroCarry (s : State) (a : Byte) (n : Int) : (s.writeZeroCarry a n).ivt = s.ivt := rfl
@[simp] theorem State.faultCode_writeZeroCarry (s : State) (a : Byte) (n : Int) : (s.writeZeroCarry a n).faultCode = s.faultCode := rfl
@[simp] theorem State.faultPc_writeZeroCarry (s : State) (a : Byte) (n : Int) : (s.writeZeroCarry a n).faultPc = s.faultPc := rfl
@[simp] theorem State.faultOpcode_writeZeroCarry (s : State) (a : Byte) (n : Int) : (s.writeZeroCarry a n).faultOpcode = s.faultOpcode := rfl
@[simp] theorem State.imem_writeZeroCarry (s : State) (a : Byte) (n : Int) : (s.writeZeroCarry a n).imem = s.imem := rfl

@[simp] theorem State.ivt_compareFlags (s : State) (n : Int) : (s.compareFlags n).ivt = s.ivt := rfl
@[simp] theorem State.faultCode_compareFlags (s : State) (n : Int) : (s.compareFlags n).faultCode = s.faultCode := rfl
@[simp] theorem State.faultPc_compareFlags (s : State) (n : Int) : (s.compareFlags n).faultPc = s.faultPc := rfl
@[simp] theorem State.faultOpcode_compareFlags (s : State) (n : Int) : (s.compareFlags n).faultOpcode = s.faultOpcode := rfl
@[simp] theorem State.imem_compareFlags (s : State) (n : Int) : (s.compareFlags n).imem = s.imem := rfl

@[simp] theorem State.ivt_fetchByte (s : State) : (s.fetchByte.2).ivt = s.ivt := rfl
@[simp] theorem State.faultCode_fetchByte (s : State) : (s.fetchByte.2).faultCode = s.faultCode := rfl
@[simp] theorem State.faultPc_fetchByte (s : State) : (s.fetchByte.2).faultPc = s.faultPc := rfl
@[simp] theorem State.faultOpcode_fetchByte (s : State) : (s.fetchByte.2).faultOpcode = s.faultOpcode := rfl
@[simp] theorem State.imem_fetchByte (s : State) : (s.fetchByte.2).imem = s.imem := rfl

@[simp] theorem State.cells_noAction (s : State) : (s.noAction).cells = s.cells := rfl
@[simp] theorem State.ivt_noAction (s : State) : (s.noAction).ivt = s.ivt := rfl
@[simp] theorem State.faultCode_noAction (s : State) : (s.noAction).faultCode = s.faultCode := rfl
@[simp] theorem State.faultPc_noAction (s : State) : (s.noAction).faultPc = s.faultPc := rfl
@[simp] theorem State.faultOpcode_noAction (s : State) : (s.noAction).faultOpcode = s.faultOpcode := rfl
@[simp] theorem State.imem_noAction (s : State) : (s.noAction).imem = s.imem := rfl

@[simp] theorem State.cells_decodeFault (s : State) (op : Byte) : (s.decodeFault op).cells = s.cells := rfl
@[simp] theorem State.ivt_decodeFault (s : State) (op : Byte) : (s.decodeFault op).ivt = s.ivt := rfl
@[simp] theorem State.imem_decodeFault (s : State) (op : Byte) : (s.decodeFault op).imem = s.imem := rfl

@[simp] theorem State.faultPc_hostReset (s : State) : (s.hostReset).faultPc = s.faultPc := rfl
@[simp] theorem State.faultOpcode_hostReset (s : State) : (s.hostReset).faultOpcode = s.faultOpcode := rfl
@[simp] theorem State.imem_hostReset (s : State) : (s.hostReset).imem = s.imem := rfl

/-! ### What an update sets -/

@[simp] theorem State.faultCode_raise (s : State) (c : FaultCode) (k : Nat) (op : Byte) :
    (s.raise c k op).faultCode = c := rfl
@[simp] theorem State.faultPc_raise (s : State) (c : FaultCode) (k : Nat) (op : Byte) :
    (s.raise c k op).faultPc = s.pc - BitVec.ofNat 16 k := rfl
@[simp] theorem State.faultOpcode_raise (s : State) (c : FaultCode) (k : Nat) (op : Byte) :
    (s.raise c k op).faultOpcode = op := rfl
@[simp] theorem State.imem_loadByte (s : State) (a : Word) (v : Byte) :
    (s.loadByte a v).imem = s.imem.write a.toNat v := rfl
@[simp] theorem State.faultCode_hostReset (s : State) : s.hostReset.faultCode = .none := rfl
@[simp] theorem State.ivt_hostReset (s : State) : s.hostReset.ivt = Vector.replicate 32 Config.ivtReset := rfl

/-! ### Cells -/

/-- Reading a cell after a write: the written cell gives the value written, every other cell is as it was (R10). -/
@[simp] theorem State.cell_setCell (s : State) (i j : Byte) (v : Word) :
    (s.setCell i v).cell j = if j = i then v else s.cell j := by
  have h : (i.toNat = j.toNat) = (j = i) := by
    rw [eq_comm (a := i.toNat), BitVec.toNat_inj]
  simp only [State.cell, State.setCell, Vector.getElem_set, h]

@[simp] theorem State.cell_ivtWrite (s : State) (n : Fin 32) (v : Word) (j : Byte) :
    (s.ivtWrite n v).cell j = s.cell j := rfl
@[simp] theorem State.cell_raise (s : State) (c : FaultCode) (k : Nat) (op j : Byte) :
    (s.raise c k op).cell j = s.cell j := rfl
@[simp] theorem State.cell_loadByte (s : State) (a : Word) (v j : Byte) : (s.loadByte a v).cell j = s.cell j := rfl
@[simp] theorem State.cell_setPc (s : State) (v : Word) (j : Byte) :
    (s.setPc v).cell j = if j = 0#8 then v else s.cell j := s.cell_setCell 0#8 j v
@[simp] theorem State.cell_setSp (s : State) (v : Word) (j : Byte) :
    (s.setSp v).cell j = if j = 1#8 then v else s.cell j := s.cell_setCell 1#8 j v
@[simp] theorem State.cell_setFlags (s : State) (v : Word) (j : Byte) :
    (s.setFlags v).cell j = if j = 2#8 then v else s.cell j := s.cell_setCell 2#8 j v

/-- Two states whose cells read alike have the same cells. -/
theorem State.cells_eq_of_cell_eq {s t : State} (h : ∀ i, t.cell i = s.cell i) : t.cells = s.cells := by
  apply Vector.ext
  intro i hi
  have := h (BitVec.ofNat 8 i)
  simpa only [State.cell, BitVec.toNat_ofNat, Nat.mod_eq_of_lt (show i < 2 ^ 8 from hi)] using this

@[simp] theorem State.pc_setPc (s : State) (v : Word) : (s.setPc v).pc = v := by simp [State.pc]
@[simp] theorem State.sp_setSp (s : State) (v : Word) : (s.setSp v).sp = v := by simp [State.sp]
@[simp] theorem State.flags_setFlags (s : State) (v : Word) : (s.setFlags v).flags = v := by simp [State.flags]
@[simp] theorem State.sp_setPc (s : State) (v : Word) : (s.setPc v).sp = s.sp := by simp [State.sp]
@[simp] theorem State.flags_setPc (s : State) (v : Word) : (s.setPc v).flags = s.flags := by simp [State.flags]
@[simp] theorem State.pc_setSp (s : State) (v : Word) : (s.setSp v).pc = s.pc := by simp [State.pc]
@[simp] theorem State.flags_setSp (s : State) (v : Word) : (s.setSp v).flags = s.flags := by simp [State.flags]
@[simp] theorem State.pc_setFlags (s : State) (v : Word) : (s.setFlags v).pc = s.pc := by simp [State.pc]
@[simp] theorem State.sp_setFlags (s : State) (v : Word) : (s.setFlags v).sp = s.sp := by simp [State.sp]
@[simp] theorem State.pc_raise (s : State) (c : FaultCode) (k : Nat) (op : Byte) : (s.raise c k op).pc = s.pc := rfl

/-! ### The interrupt vector table -/

/-- Reading an entry after a write of one (R30, R117). -/
@[simp] theorem State.ivtRead_ivtWrite (s : State) (n k : Fin 32) (v : Word) :
    (s.ivtWrite n v).ivtRead k = if k = n then v else s.ivtRead k := by
  simp only [State.ivtRead, State.ivtWrite, Vector.getElem_set, Fin.ext_iff, eq_comm (a := n.val)]

/-- Reading an entry looks at the table alone. -/
theorem State.ivtRead_congr {s t : State} (h : t.ivt = s.ivt) (n : Fin 32) : t.ivtRead n = s.ivtRead n := by
  simp only [State.ivtRead, h]

/-! ### The instruction stream -/

/-- Reading a byte of the instruction stream looks at the stream alone. -/
theorem State.memRead_congr {s t : State} (h : t.imem = s.imem) (a : Word) : t.memRead a = s.memRead a := by
  simp only [State.memRead, h]

@[simp] theorem State.memRead_setCell (s : State) (i : Byte) (v a : Word) :
    (s.setCell i v).memRead a = s.memRead a := rfl
@[simp] theorem State.memRead_setPc (s : State) (v a : Word) : (s.setPc v).memRead a = s.memRead a := rfl

/-- A state update that keeps every field but the cells keeps the rest of the machine. -/
theorem RestUnchanged.of_fields {s t : State} (h1 : t.ivt = s.ivt) (h2 : t.faultCode = s.faultCode)
    (h3 : t.faultPc = s.faultPc) (h4 : t.faultOpcode = s.faultOpcode) (h5 : t.imem = s.imem) : RestUnchanged s t :=
  ⟨State.ivtRead_congr h1, h2, h3, h4, State.memRead_congr h5⟩

end Sys2Proof.Machine
end

