-- ==== Sys2Proof/Laws/Flags.lean ====
section
/-! SUPPORT. The flag computations (spec R24, R27, R28): which bit each rewrites, and the three ways an instruction
writes a result and then updates flags, each said once. -/

namespace Sys2Proof.Machine

/-- Replacing a bit of a word changes that bit and no other. -/
theorem getLsbD_putBit (w : Word) {k : Nat} (hk : k < 16) (b : Bool) (j : Nat) :
    (putBit w k b).getLsbD j = if j = k then b else w.getLsbD j := by
  by_cases hj : j < 16
  · cases b
    · by_cases h : j = k
      · simp [putBit, h]
      · by_cases hlt : j < k
        · simp [putBit, h, hj, hlt]
        · have h0 : j - k ≠ 0 := by omega
          simp [putBit, h, hj, hlt, h0]
    · by_cases h : j = k
      · simp [putBit, h, hk]
      · by_cases hlt : j < k
        · simp [putBit, h, hj, hlt]
        · have h0 : j - k ≠ 0 := by omega
          simp [putBit, h, hj, hlt, h0]
  · have h : j ≠ k := by omega
    simp [h, BitVec.getLsbD_of_ge _ _ (Nat.not_lt.1 hj)]

/-- Assigning a flag rewrites one bit of cell 2 and leaves every other cell alone (R10, R24). -/
@[simp] theorem State.cell_setFlag (s : State) (f : Flag) (b : Bool) (j : Byte) :
    (s.setFlag f b).cell j = if j = 2#8 then putBit s.flags f.bit b else s.cell j := by
  simp only [State.setFlag, State.cell_setFlags]

/-- The bits of the flags after one flag is assigned (R24). -/
theorem State.getLsbD_flags_setFlag (s : State) (f : Flag) (b : Bool) (k : Nat) :
    (s.setFlag f b).flags.getLsbD k = if k = f.bit then b else s.flags.getLsbD k := by
  rw [State.setFlag, State.flags_setFlags, getLsbD_putBit _ (by cases f <;> decide)]

/-- `n[19:16] != 0`, by integer arithmetic: the value of those four bits is `n / 2^16 % 2^4`, both rounded down (R9,
R28). -/
theorem carryOut_eq (n : Int) : carryOut n = decide (n / 65536 % 16 ≠ 0) := by
  have h : ((BitVec.ofInt 32 n).extractLsb' 16 4).toNat = (n / 65536 % 16).toNat := by
    simp only [BitVec.extractLsb'_toNat, BitVec.toNat_ofInt, Nat.shiftRight_eq_div_pow]
    omega
  have h0 : ((BitVec.ofInt 32 n).extractLsb' 16 4 = 0#4) ↔ n / 65536 % 16 = 0 := by
    rw [← BitVec.toNat_inj, h]
    simp only [BitVec.toNat_ofNat]
    omega
  simp only [carryOut, bne, beq_eq_decide, h0, decide_not]

/-- Where the intermediate lies in -65536 to 65535, CARRY is its sign (R28). -/
theorem carryOut_of_range {n : Int} (h1 : -65536 ≤ n) (h2 : n ≤ 65535) : carryOut n = decide (n < 0) := by
  rw [carryOut_eq]
  exact decide_eq_decide.2 (by omega)

/-- The truncation of an integer is zero when 2^16 divides it (R9, R27). -/
theorem trunc16_eq_zero (n : Int) : trunc16 n = 0#16 ↔ n % 65536 = 0 := by
  rw [← BitVec.toNat_inj]
  simp only [trunc16, BitVec.toNat_ofInt, BitVec.toNat_ofNat]
  omega

/-- The bounds of a signed 16-bit reading (R9). -/
theorem s16_bounds (w : Word) : -32768 ≤ s16 w ∧ s16 w ≤ 32767 := by
  have h1 := BitVec.le_toInt w
  have h2 := BitVec.toInt_lt (x := w)
  simp only [s16]
  omega

/-- The bounds of a signed 8-bit reading (R9). -/
theorem s8_bounds (b : Byte) : -128 ≤ s8 b ∧ s8 b ≤ 127 := by
  have h1 := BitVec.le_toInt b
  have h2 := BitVec.toInt_lt (x := b)
  simp only [s8]
  omega

/-- A signed reading truncated is the pattern again (R9). -/
@[simp] theorem trunc16_s16 (w : Word) : trunc16 (s16 w) = w := by simp [trunc16, s16]

/-- Write a cell, and touch no flag. -/
theorem WritesResult.setCell (s : State) (a : Byte) (r : Word) :
    WritesResult s (s.setCell a r) (some a) r none none := by
  refine ⟨fun i _ => ?_, fun k => ?_, .of_fields rfl rfl rfl rfl rfl⟩
  · simp [eq_comm]
  · by_cases h : a = 2#8 <;> simp [State.flags, h, eq_comm]

/-- Assign ZERO after a write that has left it alone. -/
theorem WritesResult.setZero {s t : State} {dst : Option Byte} {r : Word} {z c : Option Bool}
    (h : WritesResult s t dst r z c) (b : Bool) : WritesResult s (t.setFlag .zero b) dst r (some b) c := by
  obtain ⟨h1, h2, h3⟩ := h
  refine ⟨fun i hi => ?_, fun k => ?_, h3⟩
  · rw [State.cell_setFlag, if_neg hi, h1 i hi]
  · have := h2 k
    rw [State.getLsbD_flags_setFlag]
    by_cases hk : k = 0 <;> simp_all [Flag.bit]

/-- Assign CARRY after a write. -/
theorem WritesResult.setCarry {s t : State} {dst : Option Byte} {r : Word} {z c : Option Bool}
    (h : WritesResult s t dst r z c) (b : Bool) : WritesResult s (t.setFlag .carry b) dst r z (some b) := by
  obtain ⟨h1, h2, h3⟩ := h
  refine ⟨fun i hi => ?_, fun k => ?_, h3⟩
  · rw [State.cell_setFlag, if_neg hi, h1 i hi]
  · have := h2 k
    rw [State.getLsbD_flags_setFlag]
    by_cases hk : k = 1 <;> simp_all [Flag.bit]

/-- Nothing written. -/
theorem WritesResult.refl (s : State) (r : Word) : WritesResult s s none r none none := by
  refine ⟨fun i _ => by simp, fun k => by simp, .of_fields rfl rfl rfl rfl rfl⟩

/-- What `writeZero` does, once for the logical instructions. -/
theorem State.writeZero_spec (s : State) (a : Byte) (r : Word) :
    WritesResult s (s.writeZero a r) (some a) r (some (decide (r = 0#16))) none := by
  simpa [State.writeZero, State.updateZeroWord, beq_eq_decide] using
    (WritesResult.setCell s a r).setZero (decide (r = 0#16))

/-- What `writeZeroCarry` does, once for the instructions that set both flags from an intermediate. -/
theorem State.writeZeroCarry_spec (s : State) (a : Byte) (n : Int) :
    WritesResult s (s.writeZeroCarry a n) (some a) (trunc16 n) (some (decide (n % 65536 = 0)))
      (some (decide (n / 65536 % 16 ≠ 0))) := by
  have h := ((WritesResult.setCell s a (trunc16 n)).setZero (decide (n % 65536 = 0))).setCarry
    (decide (n / 65536 % 16 ≠ 0))
  simpa only [State.writeZeroCarry, State.updateCarry, State.updateZero, State.updateZeroWord, beq_eq_decide,
    trunc16_eq_zero, carryOut_eq] using h

/-- What `compareFlags` does, once for the compares. -/
theorem State.compareFlags_spec (s : State) (n : Int) (r : Word) :
    WritesResult s (s.compareFlags n) none r (some (decide (n % 65536 = 0)))
      (some (decide (n / 65536 % 16 ≠ 0))) := by
  have h := ((WritesResult.refl s r).setZero (decide (n % 65536 = 0))).setCarry (decide (n / 65536 % 16 ≠ 0))
  simpa only [State.compareFlags, State.updateCarry, State.updateZero, State.updateZeroWord, beq_eq_decide,
    trunc16_eq_zero, carryOut_eq] using h

end Sys2Proof.Machine
end

