-- ==== Sys2Proof/Laws/Memory.lean ====
section
/-! SUPPORT. The instruction stream as a list of bytes: reading after a write, and that every operation keeps the
canonical form. -/

namespace Sys2Proof.Machine

/-- An address below every listed one reads as unlisted. -/
theorem Memory.read_of_lt {m : Memory} {a : Nat} (h : ∀ c ∈ m, a < c.1) : m.read a = Config.unlistedByte := by
  induction m with
  | nil => rfl
  | cons c m ih =>
    have hc : c.1 ≠ a := fun e => by have := h c (by simp); omega
    rw [Memory.read, if_neg hc]
    exact ih fun d hd => h d (by simp [hd])

/-- Reading after a write: the written address gives the byte written, every other address is as it was. -/
theorem Memory.read_write {m : Memory} (hm : m.Pairwise (fun c d => c.1 < d.1)) (a b : Nat) (v : Byte) :
    (m.write a v).read b = if b = a then v else m.read b := by
  induction m with
  | nil =>
    rw [Memory.write]
    by_cases hv : v = Config.unlistedByte
    · by_cases hb : b = a <;> simp [hv, hb, Memory.read]
    · by_cases hb : b = a
      · simp [hv, hb, Memory.read]
      · simp [hv, hb, Memory.read, Ne.symm hb]
  | cons c m ih =>
    obtain ⟨k, w⟩ := c
    obtain ⟨hk, hm'⟩ := List.pairwise_cons.1 hm
    rw [Memory.write]
    by_cases hlt : a < k
    · have hun : Memory.read ((k, w) :: m) a = Config.unlistedByte :=
        Memory.read_of_lt fun d hd => by
          rcases List.mem_cons.1 hd with rfl | hd
          · exact hlt
          · have := hk d hd
            simp only at this
            omega
      rw [if_pos hlt]
      by_cases hv : v = Config.unlistedByte
      · by_cases hb : b = a
        · simp [hv, hb, hun]
        · simp [hv, hb]
      · by_cases hb : b = a
        · simp [hv, hb, Memory.read]
        · simp [hv, hb, Memory.read, Ne.symm hb]
    · rw [if_neg hlt]
      by_cases hak : a = k
      · subst hak
        have hun : Memory.read m a = Config.unlistedByte := Memory.read_of_lt hk
        by_cases hv : v = Config.unlistedByte
        · by_cases hb : b = a
          · simp [hv, hb, hun]
          · simp [hv, hb, Memory.read, Ne.symm hb]
        · by_cases hb : b = a
          · simp [hv, hb, Memory.read]
          · simp [hv, hb, Memory.read, Ne.symm hb]
      · rw [if_neg hak, Memory.read, ih hm', Memory.read]
        by_cases hkb : k = b
        · have : b ≠ a := fun e => hak (by omega)
          simp [hkb, this]
        · simp [hkb]

/-- What a write can leave in the list: the written byte, or an entry that was there. -/
theorem Memory.mem_write {m : Memory} {a : Nat} {v : Byte} {c : Host.Cell} (h : c ∈ m.write a v) :
    (c = (a, v) ∧ v ≠ Config.unlistedByte) ∨ c ∈ m := by
  induction m with
  | nil =>
    rw [Memory.write] at h
    split at h
    · simp at h
    · exact .inl ⟨by simpa using h, ‹_›⟩
  | cons d m ih =>
    obtain ⟨k, w⟩ := d
    rw [Memory.write] at h
    split at h
    · split at h
      · exact .inr h
      · rcases List.mem_cons.1 h with h | h
        · exact .inl ⟨h, ‹_›⟩
        · exact .inr h
    · split at h
      · split at h
        · exact .inr (List.mem_cons_of_mem _ h)
        · rcases List.mem_cons.1 h with h | h
          · exact .inl ⟨h, ‹_›⟩
          · exact .inr (List.mem_cons_of_mem _ h)
      · rcases List.mem_cons.1 h with h | h
        · exact .inr (by simp [h])
        · rcases ih h with h | h
          · exact .inl h
          · exact .inr (List.mem_cons_of_mem _ h)

/-- A write keeps the addresses strictly rising. -/
theorem Memory.pairwise_write {m : Memory} (hm : m.Pairwise (fun c d => c.1 < d.1)) (a : Nat) (v : Byte) :
    (m.write a v).Pairwise (fun c d => c.1 < d.1) := by
  induction m with
  | nil =>
    rw [Memory.write]
    split <;> simp
  | cons d m ih =>
    obtain ⟨k, w⟩ := d
    obtain ⟨hk, hm'⟩ := List.pairwise_cons.1 hm
    rw [Memory.write]
    split
    · rename_i hlt
      split
      · exact hm
      · refine List.pairwise_cons.2 ⟨fun c hc => ?_, hm⟩
        rcases List.mem_cons.1 hc with rfl | hc
        · exact hlt
        · exact Nat.lt_trans hlt (hk c hc)
    · rename_i hlt
      split
      · rename_i hak
        split
        · exact hm'
        · exact List.pairwise_cons.2 ⟨fun c hc => hak ▸ hk c hc, hm'⟩
      · rename_i hak
        refine List.pairwise_cons.2 ⟨fun c hc => ?_, ih hm'⟩
        rcases Memory.mem_write hc with ⟨rfl, -⟩ | hc
        · exact Nat.lt_of_le_of_ne (Nat.not_lt.1 hlt) (Ne.symm hak)
        · exact hk c hc

/-- A write at an address of the stream keeps the canonical form. -/
theorem Memory.wf_write {m : Memory} (hm : m.wf) {a : Nat} (ha : a < Config.imemSize) (v : Byte) :
    (m.write a v).wf := by
  refine ⟨Memory.pairwise_write hm.1 a v, fun c hc => ?_⟩
  rcases Memory.mem_write hc with ⟨rfl, hv⟩ | hc
  · exact ⟨ha, hv⟩
  · exact hm.2 c hc

/-- The empty list is in canonical form. -/
theorem Memory.wf_nil : Memory.wf [] := ⟨List.Pairwise.nil, fun c hc => by simp at hc⟩

/-- Loading a byte keeps the canonical form. -/
theorem State.wf_loadByte {s : State} (h : s.imem.wf) (a : Word) (v : Byte) : (s.loadByte a v).imem.wf :=
  Memory.wf_write h a.isLt v

/-- Loading bytes keeps the canonical form. -/
theorem State.wf_loadBytes {s : State} (h : s.imem.wf) (a : Word) (bytes : List Byte) :
    (s.loadBytes a bytes).imem.wf := by
  induction bytes generalizing s a with
  | nil => exact h
  | cons b bytes ih => exact ih (State.wf_loadByte h a b) _

/-- Laying down an instruction word keeps the canonical form. -/
theorem State.wf_withFetchWord {s : State} (h : s.imem.wf) (nbits w : Nat) : (s.withFetchWord nbits w).imem.wf :=
  State.wf_loadBytes h _ _

/-- Reading the instruction stream after a byte is loaded. -/
theorem State.memRead_loadByte {s : State} (h : s.imem.wf) (a b : Word) (v : Byte) :
    (s.loadByte a v).memRead b = if b = a then v else s.memRead b := by
  simp only [State.memRead, State.loadByte, Memory.read_write h.1, BitVec.toNat_inj]

end Sys2Proof.Machine
end

