-- ==== Sys2Proof/Laws/Ops.lean ====
section
/-! SUPPORT. One lemma for each shared operation of Machine/Ops.lean and Machine/Fetch.lean, which says once what it
does: the stack primitives, the return from an interrupt, the fetch-decode stage, the gate of a step. -/

namespace Sys2Proof.Machine

/-- A state is its cells, its vector table, its fault status and its instruction stream. -/
theorem State.ext_cells {s t : State} (h : ∀ i, t.cell i = s.cell i) (h1 : t.ivt = s.ivt)
    (h2 : t.faultCode = s.faultCode) (h3 : t.faultPc = s.faultPc) (h4 : t.faultOpcode = s.faultOpcode)
    (h5 : t.imem = s.imem) : t = s := by
  have h0 := State.cells_eq_of_cell_eq h
  cases s
  cases t
  simp_all only

/-- Writing the program counter twice is writing it once. -/
@[simp] theorem State.setPc_setPc (s : State) (v w : Word) : (s.setPc v).setPc w = s.setPc w :=
  State.ext_cells (fun i => by by_cases h : i = 0#8 <;> simp [h]) rfl rfl rfl rfl rfl

/-- Writing back what a cell holds changes nothing. -/
@[simp] theorem State.setPc_pc (s : State) : s.setPc s.pc = s :=
  State.ext_cells (fun i => by by_cases h : i = 0#8 <;> simp [h, State.pc]) rfl rfl rfl rfl rfl

/-! ### The stack -/

/-- `push`: the cell the stack pointer selects gets the value, and the stack pointer, read after that write, goes down
by one (R39). -/
theorem State.cell_push (s : State) (v : Word) (j : Byte) :
    (s.push v).cell j =
      if j = 1#8 then (if cellIndex s.sp = 1#8 then v else s.sp) - 1#16
      else if j = cellIndex s.sp then v else s.cell j := by
  by_cases h : j = 1#8
  · simp [State.push, State.sp, h, eq_comm]
  · simp [State.push, h]

/-- `pop` leaves the stack pointer one up and every other cell alone (R40). -/
theorem State.cell_pop (s : State) (j : Byte) :
    s.pop.2.cell j = if j = 1#8 then s.sp + 1#16 else s.cell j := by
  simp [State.pop]

/-- `pop` returns the cell the new stack pointer selects, which is the stack pointer itself where it selects cell 1
(R40). -/
theorem State.pop_fst (s : State) :
    s.pop.1 = if cellIndex (s.sp + 1#16) = 1#8 then s.sp + 1#16 else s.cell (cellIndex (s.sp + 1#16)) := by
  simp [State.pop]

/-- The cells after the return from an interrupt: the program counter is the first value popped, the flags the second,
which is read after the program counter is written, and the stack pointer is two up (R70). -/
theorem State.cell_returnFromInterrupt (s : State) (j : Byte) :
    s.returnFromInterrupt.cell j =
      if j = 2#8 then
        (if cellIndex (s.sp + 1#16 + 1#16) = 1#8 then s.sp + 1#16 + 1#16
         else if cellIndex (s.sp + 1#16 + 1#16) = 0#8 then s.pop.1
         else s.cell (cellIndex (s.sp + 1#16 + 1#16)))
      else if j = 1#8 then s.sp + 1#16 + 1#16
      else if j = 0#8 then s.pop.1
      else s.cell j := by
  have hsp : s.pop.2.sp = s.sp + 1#16 := by simp [State.pop]
  simp only [State.returnFromInterrupt, State.cell_setFlags, State.pop_fst, State.cell_pop, State.cell_setPc,
    State.sp_setPc, hsp]
  split
  · split
    · rfl
    · split
      · rfl
      · rfl
  · split
    · rfl
    · rfl

/-! ### The fetch-decode stage -/

/-- Fetching operand bytes reads them at consecutive addresses from `pc` and moves `pc` past them (R59). -/
theorem State.fetchOperands_spec (s : State) (n : Nat) :
    s.fetchOperands n =
      ((List.range n).map (fun k => s.memRead (s.pc + BitVec.ofNat 16 k)), s.setPc (s.pc + BitVec.ofNat 16 n)) := by
  induction n generalizing s with
  | zero => simp [State.fetchOperands]
  | succ n ih =>
    have hadd : ∀ k : Nat, s.pc + 1#16 + BitVec.ofNat 16 k = s.pc + BitVec.ofNat 16 (k + 1) := fun k => by
      rw [Nat.add_comm k 1, BitVec.ofNat_add, BitVec.add_assoc]
    rw [State.fetchOperands, ih]
    simp [State.fetchByte, List.range_succ_eq_map, hadd]

/-- The fetch-decode stage reads the opcode byte at `pc`, then the operand bytes its range fixes, and leaves `pc` at
the address after them (R20, R59). -/
theorem State.fetch_spec (s : State) :
    s.fetch =
      (instrOfBytes (s.memRead s.pc)
        ((List.range (operandCount (s.memRead s.pc))).map
          (fun k => s.memRead (s.pc + BitVec.ofNat 16 (k + 1)))),
       s.setPc (s.pc + BitVec.ofNat 16 (operandCount (s.memRead s.pc) + 1))) := by
  have hadd : ∀ k : Nat, s.pc + 1#16 + BitVec.ofNat 16 k = s.pc + BitVec.ofNat 16 (k + 1) := fun k => by
    rw [Nat.add_comm k 1, BitVec.ofNat_add, BitVec.add_assoc]
  simp [State.fetch, State.fetchByte, State.fetchOperands_spec, hadd]

/-- The gate lets a step run exactly where no fault is recorded and the machine is running (R133). -/
theorem State.stepGate_eq_none (s : State) : s.stepGate = none ↔ s.Ready := by
  rw [State.stepGate, State.Ready]
  cases s.faultCode <;> cases s.isRunning <;> simp

/-- A step that runs executes the fetched instruction in the state the fetch leaves. -/
theorem step_of_ready {s : State} (h : s.Ready) : step s = exec s.fetch.1 s.fetch.2 := by
  rw [step, (State.stepGate_eq_none s).2 h]

/-- A step that answers a next state ran an instruction. -/
theorem step_next {s t : State} (h : step s = .next t) : s.Ready ∧ exec s.fetch.1 s.fetch.2 = .next t := by
  have hr : s.Ready := (State.stepGate_eq_none s).1 (by
    cases hg : s.stepGate with
    | none => rfl
    | some f => simp [step, hg] at h)
  exact ⟨hr, step_of_ready hr ▸ h⟩

end Sys2Proof.Machine
end

