-- ==== Sys2Proof/Laws/PerInstr.lean ====
section
/-! SUPPORT. The family RoundTrip: decoding the bytes of a well-formed instruction gives it back, with the bytes after
it untouched; one lemma for each instruction. -/

namespace Sys2Proof.Laws.RoundTrip

open Sys2Proof

/-- Decoding what `i` encodes to, followed by any bytes, gives `i` and those bytes. -/
def Statement (i : Instr) : Prop := i.WellFormed → ∀ rest, decode (encode i ++ rest) = .ok (i, rest)

/-- The two bytes of a target, the more significant first, are the target (R53, R55). -/
theorem highByte_append_lowByte (t : Word) : highByte t ++ lowByte t = t := by
  apply BitVec.eq_of_toNat_eq
  refine (BitVec.toNat_append _ _).trans ?_
  have ht := t.isLt
  have hlow : (lowByte t).toNat < 2 ^ 8 := (lowByte t).isLt
  rw [← Nat.shiftLeft_add_eq_or_of_lt hlow]
  simp only [highByte, lowByte, BitVec.extractLsb'_toNat, Nat.shiftLeft_eq, Nat.shiftRight_eq_div_pow]
  omega

/-- An opcode of an illegal row decodes to that row's instruction, and no operand byte is read (R63, R110). -/
theorem decode_illegal {i : Instr} {op : Byte} (h1 : operandCount op = 0) (h2 : instrOf op 0#8 0#8 0#8 = i)
    (rest : List Byte) : decode (op :: rest) = .ok (i, rest) := by
  simp [decode, h1, instrOfBytes, h2]

/-- The opcodes of the row 0x50 with mask 0xF0. -/
theorem illegal50_opcode {op : Byte} (h : (Instr.illegal50 op).WellFormed) :
    operandCount op = 0 ∧ instrOf op 0#8 0#8 0#8 = .illegal50 op := by
  revert op
  decide

/-- The opcodes of the row 0x60 with mask 0xE0. -/
theorem illegal60_opcode {op : Byte} (h : (Instr.illegal60 op).WellFormed) :
    operandCount op = 0 ∧ instrOf op 0#8 0#8 0#8 = .illegal60 op := by
  revert op
  decide

/-- The opcodes of the row 0x80 with mask 0x80. -/
theorem illegal80_opcode {op : Byte} (h : (Instr.illegal80 op).WellFormed) :
    operandCount op = 0 ∧ instrOf op 0#8 0#8 0#8 = .illegal80 op := by
  revert op
  decide

end Sys2Proof.Laws.RoundTrip

open Sys2Proof
open Sys2Proof.Laws.RoundTrip

theorem Sys2Proof.Laws.RoundTrip.unassigned00 : Statement (.unassigned00) := fun _ _ => rfl

theorem Sys2Proof.Laws.RoundTrip.nop : Statement (.nop) := fun _ _ => rfl

theorem Sys2Proof.Laws.RoundTrip.ret : Statement (.ret) := fun _ _ => rfl

theorem Sys2Proof.Laws.RoundTrip.reti : Statement (.reti) := fun _ _ => rfl

theorem Sys2Proof.Laws.RoundTrip.cli : Statement (.cli) := fun _ _ => rfl

theorem Sys2Proof.Laws.RoundTrip.sti : Statement (.sti) := fun _ _ => rfl

theorem Sys2Proof.Laws.RoundTrip.hlt : Statement (.hlt) := fun _ _ => rfl

theorem Sys2Proof.Laws.RoundTrip.unassigned07 : Statement (.unassigned07) := fun _ _ => rfl

theorem Sys2Proof.Laws.RoundTrip.unassigned08 : Statement (.unassigned08) := fun _ _ => rfl

theorem Sys2Proof.Laws.RoundTrip.unassigned09 : Statement (.unassigned09) := fun _ _ => rfl

theorem Sys2Proof.Laws.RoundTrip.unassigned0A : Statement (.unassigned0A) := fun _ _ => rfl

theorem Sys2Proof.Laws.RoundTrip.unassigned0B : Statement (.unassigned0B) := fun _ _ => rfl

theorem Sys2Proof.Laws.RoundTrip.unassigned0C : Statement (.unassigned0C) := fun _ _ => rfl

theorem Sys2Proof.Laws.RoundTrip.unassigned0D : Statement (.unassigned0D) := fun _ _ => rfl

theorem Sys2Proof.Laws.RoundTrip.unassigned0E : Statement (.unassigned0E) := fun _ _ => rfl

theorem Sys2Proof.Laws.RoundTrip.unassigned0F : Statement (.unassigned0F) := fun _ _ => rfl

theorem Sys2Proof.Laws.RoundTrip.inc (a1 : Byte) : Statement (.inc a1) := fun _ _ => rfl

theorem Sys2Proof.Laws.RoundTrip.dec (a1 : Byte) : Statement (.dec a1) := fun _ _ => rfl

theorem Sys2Proof.Laws.RoundTrip.push (a1 : Byte) : Statement (.push a1) := fun _ _ => rfl

theorem Sys2Proof.Laws.RoundTrip.pop (a1 : Byte) : Statement (.pop a1) := fun _ _ => rfl

theorem Sys2Proof.Laws.RoundTrip.unassigned14 (a1 : Byte) : Statement (.unassigned14 a1) := fun _ _ => rfl

theorem Sys2Proof.Laws.RoundTrip.unassigned15 (a1 : Byte) : Statement (.unassigned15 a1) := fun _ _ => rfl

theorem Sys2Proof.Laws.RoundTrip.unassigned16 (a1 : Byte) : Statement (.unassigned16 a1) := fun _ _ => rfl

theorem Sys2Proof.Laws.RoundTrip.unassigned17 (a1 : Byte) : Statement (.unassigned17 a1) := fun _ _ => rfl

theorem Sys2Proof.Laws.RoundTrip.unassigned18 (a1 : Byte) : Statement (.unassigned18 a1) := fun _ _ => rfl

theorem Sys2Proof.Laws.RoundTrip.unassigned19 (a1 : Byte) : Statement (.unassigned19 a1) := fun _ _ => rfl

theorem Sys2Proof.Laws.RoundTrip.unassigned1A (a1 : Byte) : Statement (.unassigned1A a1) := fun _ _ => rfl

theorem Sys2Proof.Laws.RoundTrip.unassigned1B (a1 : Byte) : Statement (.unassigned1B a1) := fun _ _ => rfl

theorem Sys2Proof.Laws.RoundTrip.unassigned1C (a1 : Byte) : Statement (.unassigned1C a1) := fun _ _ => rfl

theorem Sys2Proof.Laws.RoundTrip.unassigned1D (a1 : Byte) : Statement (.unassigned1D a1) := fun _ _ => rfl

theorem Sys2Proof.Laws.RoundTrip.unassigned1E (a1 : Byte) : Statement (.unassigned1E a1) := fun _ _ => rfl

theorem Sys2Proof.Laws.RoundTrip.unassigned1F (a1 : Byte) : Statement (.unassigned1F a1) := fun _ _ => rfl

theorem Sys2Proof.Laws.RoundTrip.movRR (a1 a2 : Byte) : Statement (.movRR a1 a2) := fun _ _ => rfl

theorem Sys2Proof.Laws.RoundTrip.movLoad (a1 a2 : Byte) : Statement (.movLoad a1 a2) := fun _ _ => rfl

theorem Sys2Proof.Laws.RoundTrip.movStore (a1 a2 : Byte) : Statement (.movStore a1 a2) := fun _ _ => rfl

theorem Sys2Proof.Laws.RoundTrip.movLit8 (a1 lit : Byte) : Statement (.movLit8 a1 lit) := fun _ _ => rfl

theorem Sys2Proof.Laws.RoundTrip.andRR (a1 a2 : Byte) : Statement (.andRR a1 a2) := fun _ _ => rfl

theorem Sys2Proof.Laws.RoundTrip.orRR (a1 a2 : Byte) : Statement (.orRR a1 a2) := fun _ _ => rfl

theorem Sys2Proof.Laws.RoundTrip.xorRR (a1 a2 : Byte) : Statement (.xorRR a1 a2) := fun _ _ => rfl

theorem Sys2Proof.Laws.RoundTrip.mulRR (a1 a2 : Byte) : Statement (.mulRR a1 a2) := fun _ _ => rfl

theorem Sys2Proof.Laws.RoundTrip.divRR (a1 a2 : Byte) : Statement (.divRR a1 a2) := fun _ _ => rfl

theorem Sys2Proof.Laws.RoundTrip.addRR (a1 a2 : Byte) : Statement (.addRR a1 a2) := fun _ _ => rfl

theorem Sys2Proof.Laws.RoundTrip.subRR (a1 a2 : Byte) : Statement (.subRR a1 a2) := fun _ _ => rfl

theorem Sys2Proof.Laws.RoundTrip.jmp (target : Word) : Statement (.jmp target) := fun _ rest =>
  congrArg (fun w => Except.ok (Instr.jmp w, rest)) (highByte_append_lowByte target)

theorem Sys2Proof.Laws.RoundTrip.call (target : Word) : Statement (.call target) := fun _ rest =>
  congrArg (fun w => Except.ok (Instr.call w, rest)) (highByte_append_lowByte target)

theorem Sys2Proof.Laws.RoundTrip.je (target : Word) : Statement (.je target) := fun _ rest =>
  congrArg (fun w => Except.ok (Instr.je w, rest)) (highByte_append_lowByte target)

theorem Sys2Proof.Laws.RoundTrip.jne (target : Word) : Statement (.jne target) := fun _ rest =>
  congrArg (fun w => Except.ok (Instr.jne w, rest)) (highByte_append_lowByte target)

theorem Sys2Proof.Laws.RoundTrip.jo (target : Word) : Statement (.jo target) := fun _ rest =>
  congrArg (fun w => Except.ok (Instr.jo w, rest)) (highByte_append_lowByte target)

theorem Sys2Proof.Laws.RoundTrip.jno (target : Word) : Statement (.jno target) := fun _ rest =>
  congrArg (fun w => Except.ok (Instr.jno w, rest)) (highByte_append_lowByte target)

theorem Sys2Proof.Laws.RoundTrip.cmpRR (a1 a2 : Byte) : Statement (.cmpRR a1 a2) := fun _ _ => rfl

theorem Sys2Proof.Laws.RoundTrip.cmpLit8 (a1 lit : Byte) : Statement (.cmpLit8 a1 lit) := fun _ _ => rfl

theorem Sys2Proof.Laws.RoundTrip.unassigned33 (a1 a2 : Byte) : Statement (.unassigned33 a1 a2) := fun _ _ => rfl

theorem Sys2Proof.Laws.RoundTrip.unassigned34 (a1 a2 : Byte) : Statement (.unassigned34 a1 a2) := fun _ _ => rfl

theorem Sys2Proof.Laws.RoundTrip.unassigned35 (a1 a2 : Byte) : Statement (.unassigned35 a1 a2) := fun _ _ => rfl

theorem Sys2Proof.Laws.RoundTrip.unassigned36 (a1 a2 : Byte) : Statement (.unassigned36 a1 a2) := fun _ _ => rfl

theorem Sys2Proof.Laws.RoundTrip.unassigned37 (a1 a2 : Byte) : Statement (.unassigned37 a1 a2) := fun _ _ => rfl

theorem Sys2Proof.Laws.RoundTrip.unassigned38 (a1 a2 : Byte) : Statement (.unassigned38 a1 a2) := fun _ _ => rfl

theorem Sys2Proof.Laws.RoundTrip.unassigned39 (a1 a2 : Byte) : Statement (.unassigned39 a1 a2) := fun _ _ => rfl

theorem Sys2Proof.Laws.RoundTrip.unassigned3A (a1 a2 : Byte) : Statement (.unassigned3A a1 a2) := fun _ _ => rfl

theorem Sys2Proof.Laws.RoundTrip.unassigned3B (a1 a2 : Byte) : Statement (.unassigned3B a1 a2) := fun _ _ => rfl

theorem Sys2Proof.Laws.RoundTrip.unassigned3C (a1 a2 : Byte) : Statement (.unassigned3C a1 a2) := fun _ _ => rfl

theorem Sys2Proof.Laws.RoundTrip.unassigned3D (a1 a2 : Byte) : Statement (.unassigned3D a1 a2) := fun _ _ => rfl

theorem Sys2Proof.Laws.RoundTrip.unassigned3E (a1 a2 : Byte) : Statement (.unassigned3E a1 a2) := fun _ _ => rfl

theorem Sys2Proof.Laws.RoundTrip.unassigned3F (a1 a2 : Byte) : Statement (.unassigned3F a1 a2) := fun _ _ => rfl

theorem Sys2Proof.Laws.RoundTrip.lpm (a1 : Byte) (target : Word) : Statement (.lpm a1 target) := fun _ rest =>
  congrArg (fun w => Except.ok (Instr.lpm a1 w, rest)) (highByte_append_lowByte target)

theorem Sys2Proof.Laws.RoundTrip.andLit16 (a1 : Byte) (target : Word) : Statement (.andLit16 a1 target) := fun _ rest =>
  congrArg (fun w => Except.ok (Instr.andLit16 a1 w, rest)) (highByte_append_lowByte target)

theorem Sys2Proof.Laws.RoundTrip.orLit16 (a1 : Byte) (target : Word) : Statement (.orLit16 a1 target) := fun _ rest =>
  congrArg (fun w => Except.ok (Instr.orLit16 a1 w, rest)) (highByte_append_lowByte target)

theorem Sys2Proof.Laws.RoundTrip.xorLit16 (a1 : Byte) (target : Word) : Statement (.xorLit16 a1 target) := fun _ rest =>
  congrArg (fun w => Except.ok (Instr.xorLit16 a1 w, rest)) (highByte_append_lowByte target)

theorem Sys2Proof.Laws.RoundTrip.addLit16 (a1 : Byte) (target : Word) : Statement (.addLit16 a1 target) := fun _ rest =>
  congrArg (fun w => Except.ok (Instr.addLit16 a1 w, rest)) (highByte_append_lowByte target)

theorem Sys2Proof.Laws.RoundTrip.subLit16 (a1 : Byte) (target : Word) : Statement (.subLit16 a1 target) := fun _ rest =>
  congrArg (fun w => Except.ok (Instr.subLit16 a1 w, rest)) (highByte_append_lowByte target)

theorem Sys2Proof.Laws.RoundTrip.cmpLit16 (a1 : Byte) (target : Word) : Statement (.cmpLit16 a1 target) := fun _ rest =>
  congrArg (fun w => Except.ok (Instr.cmpLit16 a1 w, rest)) (highByte_append_lowByte target)

theorem Sys2Proof.Laws.RoundTrip.int (n : Byte) (target : Word) : Statement (.int n target) := fun _ rest =>
  congrArg (fun w => Except.ok (Instr.int n w, rest)) (highByte_append_lowByte target)

theorem Sys2Proof.Laws.RoundTrip.movLit16 (a1 : Byte) (target : Word) : Statement (.movLit16 a1 target) := fun _ rest =>
  congrArg (fun w => Except.ok (Instr.movLit16 a1 w, rest)) (highByte_append_lowByte target)

theorem Sys2Proof.Laws.RoundTrip.unassigned49 (a1 a2 a3 : Byte) : Statement (.unassigned49 a1 a2 a3) := fun _ _ => rfl

theorem Sys2Proof.Laws.RoundTrip.unassigned4A (a1 a2 a3 : Byte) : Statement (.unassigned4A a1 a2 a3) := fun _ _ => rfl

theorem Sys2Proof.Laws.RoundTrip.unassigned4B (a1 a2 a3 : Byte) : Statement (.unassigned4B a1 a2 a3) := fun _ _ => rfl

theorem Sys2Proof.Laws.RoundTrip.unassigned4C (a1 a2 a3 : Byte) : Statement (.unassigned4C a1 a2 a3) := fun _ _ => rfl

theorem Sys2Proof.Laws.RoundTrip.unassigned4D (a1 a2 a3 : Byte) : Statement (.unassigned4D a1 a2 a3) := fun _ _ => rfl

theorem Sys2Proof.Laws.RoundTrip.unassigned4E (a1 a2 a3 : Byte) : Statement (.unassigned4E a1 a2 a3) := fun _ _ => rfl

theorem Sys2Proof.Laws.RoundTrip.unassigned4F (a1 a2 a3 : Byte) : Statement (.unassigned4F a1 a2 a3) := fun _ _ => rfl

theorem Sys2Proof.Laws.RoundTrip.illegal50 (op : Byte) : Statement (.illegal50 op) := by
  intro h rest
  obtain ⟨h1, h2⟩ := illegal50_opcode h
  exact decode_illegal h1 h2 rest

theorem Sys2Proof.Laws.RoundTrip.illegal60 (op : Byte) : Statement (.illegal60 op) := by
  intro h rest
  obtain ⟨h1, h2⟩ := illegal60_opcode h
  exact decode_illegal h1 h2 rest

theorem Sys2Proof.Laws.RoundTrip.illegal80 (op : Byte) : Statement (.illegal80 op) := by
  intro h rest
  obtain ⟨h1, h2⟩ := illegal80_opcode h
  exact decode_illegal h1 h2 rest
end

