-- ==== Sys2Proof/Laws/Step.lean ====
section
/-! SUPPORT. What an instruction and a step can do to the fault status and the instruction stream, said once: every
later claim about all steps starts from `step_cases`. -/

namespace Sys2Proof

/-- Whether an instruction is one of the three illegal rows (R63). -/
def Instr.isIllegal : Instr → Bool
  | .illegal50 _ | .illegal60 _ | .illegal80 _ => true
  | _ => false

end Sys2Proof

namespace Sys2Proof.Machine

/-- The signed reading of a pattern is 0 exactly for the pattern 0 (R9). -/
theorem s16_eq_zero (w : Word) : s16 w = 0 ↔ w = 0#16 :=
  ⟨fun h => BitVec.eq_of_toInt_eq (by simpa [s16] using h), fun h => by rw [h]; rfl⟩

/-- Executing an instruction leaves the fault status and the instruction stream alone, or it is one of the three
raises of R112, which write the fault status and nothing else. -/
theorem exec_cases {i : Instr} {s t : State} (h : exec i s = .next t) :
    (t.faultCode = s.faultCode ∧ t.faultPc = s.faultPc ∧ t.faultOpcode = s.faultOpcode ∧ t.imem = s.imem) ∨
    (∃ op, i ∈ [Instr.illegal50 op, .illegal60 op, .illegal80 op] ∧ t = s.raise .decodeFault 1 op) ∨
    (∃ a1 a2, i = .divRR a1 a2 ∧ s.cell a2 = 0#16 ∧ t = s.raise .divideByZero 3 0x28#8) ∨
    (∃ a1, i = .lpm a1 0xFFFF#16 ∧ t = s.raise .lpmRangeFault 4 0x40#8) := by
  cases i
  case divRR a b =>
    change execDivRR a b s = _ at h
    rw [execDivRR] at h
    split at h
    · cases h
      exact .inr (.inr (.inl ⟨a, b, rfl, (s16_eq_zero _).1 ‹_›, rfl⟩))
    · cases h
      exact .inl ⟨rfl, rfl, rfl, rfl⟩
  case lpm a target =>
    change execLpm a target s = _ at h
    rw [execLpm] at h
    split at h
    · rename_i ht
      cases h
      exact .inr (.inr (.inr ⟨a, by rw [ht], rfl⟩))
    · cases h
      exact .inl ⟨rfl, rfl, rfl, rfl⟩
  case int n target =>
    change execInt n target s = _ at h
    rw [execInt] at h
    split at h
    · cases h
      exact .inl ⟨rfl, rfl, rfl, rfl⟩
    · cases h
      exact .inl ⟨rfl, rfl, rfl, rfl⟩
  case illegal50 op => cases h; exact .inr (.inl ⟨op, by simp, rfl⟩)
  case illegal60 op => cases h; exact .inr (.inl ⟨op, by simp, rfl⟩)
  case illegal80 op => cases h; exact .inr (.inl ⟨op, by simp, rfl⟩)
  case je target => cases h; split <;> exact .inl ⟨rfl, rfl, rfl, rfl⟩
  case jne target => cases h; split <;> exact .inl ⟨rfl, rfl, rfl, rfl⟩
  case jo target => cases h; split <;> exact .inl ⟨rfl, rfl, rfl, rfl⟩
  case jno target => cases h; split <;> exact .inl ⟨rfl, rfl, rfl, rfl⟩
  all_goals (cases h; exact .inl ⟨rfl, rfl, rfl, rfl⟩)

/-- The opcode map gives each opcode byte an instruction whose first byte it is (R60, R61). -/
theorem head_encode_instrOf (op a1 a2 a3 : Byte) : (encode (instrOf op a1 a2 a3)).head? = some op := by
  have h : ∀ n : Fin 256, (encode (instrOf (BitVec.ofFin n) a1 a2 a3)).head? = some (BitVec.ofFin n) := by
    intro n
    fin_cases n <;> rfl
  exact h op.toFin

/-- Only an opcode of 0x50 or more decodes to an illegal row, and no operand byte of it is read (R63). -/
theorem illegal_of_instrOf {op a1 a2 a3 b : Byte}
    (h : instrOf op a1 a2 a3 ∈ [Instr.illegal50 b, .illegal60 b, .illegal80 b]) :
    b = op ∧ 0x50 ≤ op.toNat ∧ operandCount op = 0 := by
  have hb : some b = some op := by
    rw [← head_encode_instrOf op a1 a2 a3]
    simp only [List.mem_cons, List.not_mem_nil, or_false] at h
    rcases h with h | h | h <;> rw [h] <;> rfl
  cases hb
  have hlegal : ∀ n : Fin 256, n.val < 0x50 → (instrOf (BitVec.ofFin n) a1 a2 a3).isIllegal = false := by
    intro n hn
    fin_cases n <;> first | rfl | exact absurd hn (by decide)
  have hill : (instrOf op a1 a2 a3).isIllegal = true := by
    simp only [List.mem_cons, List.not_mem_nil, or_false] at h
    rcases h with h | h | h <;> rw [h] <;> rfl
  have hcount : ∀ c : Byte, 0x50 ≤ c.toNat → operandCount c = 0 := by decide
  have hop : 0x50 ≤ op.toNat := Nat.not_lt.1 fun hlt =>
    Bool.false_ne_true ((hlegal op.toFin hlt).symm.trans hill)
  exact ⟨rfl, hop, hcount op hop⟩

/-- What a step can do (R112, R113, R133): it ran, and either it recorded no fault and kept the instruction stream, or
it is one of the three raises, in exactly the case of its cause. -/
theorem step_cases {s t : State} (h : step s = .next t) :
    s.Ready ∧
    ((t.faultCode = .none ∧ t.imem = s.imem) ∨
     (0x50 ≤ (s.memRead s.pc).toNat ∧ t = (s.setPc (s.pc + 1#16)).raise .decodeFault 1 (s.memRead s.pc)) ∨
     (s.memRead s.pc = 0x28#8 ∧ (s.setPc (s.pc + 3#16)).cell (s.memRead (s.pc + 2#16)) = 0#16 ∧
       t = (s.setPc (s.pc + 3#16)).raise .divideByZero 3 0x28#8) ∨
     (s.memRead s.pc = 0x40#8 ∧ s.memRead (s.pc + 2#16) ++ s.memRead (s.pc + 3#16) = 0xFFFF#16 ∧
       t = (s.setPc (s.pc + 4#16)).raise .lpmRangeFault 4 0x40#8)) := by
  obtain ⟨hr, he⟩ := step_next h
  refine ⟨hr, ?_⟩
  rw [State.fetch_spec] at he
  have hhead := head_encode_instrOf (s.memRead s.pc)
  rcases exec_cases he with h1 | ⟨op, h1, h2⟩ | ⟨a, b, h1, h2, h3⟩ | ⟨a, h1, h2⟩
  · exact .inl ⟨h1.1.trans hr.1, h1.2.2.2⟩
  · obtain ⟨rfl, h3, h4⟩ := illegal_of_instrOf h1
    rw [h4] at h2
    exact .inr (.inl ⟨h3, h2⟩)
  · have hop : s.memRead s.pc = 0x28#8 := by
      have := hhead _ _ _ ▸ congrArg (fun i => (encode i).head?) h1
      exact Option.some.inj this
    rw [hop] at h1 h2 h3
    cases h1
    exact .inr (.inr (.inl ⟨hop, h2, h3⟩))
  · have hop : s.memRead s.pc = 0x40#8 := by
      have := hhead _ _ _ ▸ congrArg (fun i => (encode i).head?) h1
      exact Option.some.inj this
    rw [hop] at h1 h2
    exact .inr (.inr (.inr ⟨hop, (Instr.lpm.inj h1).2, h2⟩))

end Sys2Proof.Machine
end

