-- ==== Sys2Proof/Tests/Slice0.lean ====
section
/-! SUPPORT. The model's own tests. Expected results are the spec's: the encodings of its rules, and the vectors of
95_test_vectors.md, which are named at each test. The last part holds a witness for the hypotheses of each obligation
that has some. -/

namespace Sys2Proof.Tests

open Sys2Proof Sys2Proof.Machine

/-- The reset state with cells set and bytes loaded from address 0. -/
def startState (cells : List (Byte × Word)) (bytes : List Byte) : State :=
  cells.foldl (fun s c => s.setCell c.1 c.2) (State.reset.loadBytes 0#16 bytes)

/-- One step answers a next state with no fault recorded that has these cells. -/
def stepGives (cells : List (Byte × Word)) (bytes : List Byte) (expected : List (Byte × Word)) : Bool :=
  match step (startState cells bytes) with
  | .next t => t.faultCode == .none && expected.all (fun c => t.cell c.1 == c.2)
  | _ => false

/-- One step raises this fault: the code, `fault_pc`, `fault_opcode` and cells of the state it leaves, and what the
host is returned by it and by the next call. -/
def stepRaises (cells : List (Byte × Word)) (bytes : List Byte) (code : FaultCode) (pc : Word) (op : Byte)
    (expected : List (Byte × Word)) : Bool :=
  let p := (startState cells bytes).hostStep
  p.2 == .fault code && p.1.faultCode == code && p.1.faultPc == pc && p.1.faultOpcode == op &&
    expected.all (fun c => p.1.cell c.1 == c.2) && p.1.hostStep.2 == .fault code

/-- The instruction a list of bytes is, where it is exactly one. -/
def firstOf (bytes : List Byte) : Option Instr :=
  match decode bytes with
  | .ok (i, []) => some i
  | _ => none

/-! ### Well-formedness: an ill-formed term for each check -/

theorem test_wellFormed_refuses_illegal50 : (Instr.illegal50 0x60#8).wellFormed = false := by decide
theorem test_wellFormed_refuses_illegal60 : (Instr.illegal60 0x5F#8).wellFormed = false := by decide
theorem test_wellFormed_refuses_illegal80 : (Instr.illegal80 0x7F#8).wellFormed = false := by decide

/-! ### Decoding -/

/-- The words of opcodes 0x01 to 0x06, from the encodings of R68 to R73. -/
theorem test_decode_control :
    [firstOf [0x01#8],
     firstOf [0x02#8],
     firstOf [0x03#8],
     firstOf [0x04#8],
     firstOf [0x05#8],
     firstOf [0x06#8]] =
    [some .nop, some .ret, some .reti, some .cli, some .sti, some .hlt] := by decide

/-- The words of opcodes 0x10 to 0x13, from the encodings of R74 to R77. -/
theorem test_decode_single_register :
    [firstOf [0x10#8, 0x05#8],
     firstOf [0x11#8, 0x05#8],
     firstOf [0x12#8, 0x05#8],
     firstOf [0x13#8, 0x05#8]] =
    [some (.inc 0x05#8), some (.dec 0x05#8), some (.push 0x05#8), some (.pop 0x05#8)] := by decide

/-- The words of opcodes 0x20 to 0x26, from the encodings of R78 to R84. -/
theorem test_decode_move_and_logic :
    [firstOf [0x20#8, 0x05#8, 0x06#8],
     firstOf [0x21#8, 0x05#8, 0x06#8],
     firstOf [0x22#8, 0x05#8, 0x06#8],
     firstOf [0x23#8, 0x05#8, 0xFE#8],
     firstOf [0x24#8, 0x05#8, 0x06#8],
     firstOf [0x25#8, 0x05#8, 0x06#8],
     firstOf [0x26#8, 0x05#8, 0x06#8]] =
    [some (.movRR 0x05#8 0x06#8), some (.movLoad 0x05#8 0x06#8), some (.movStore 0x05#8 0x06#8), some (.movLit8 0x05#8 0xFE#8), some (.andRR 0x05#8 0x06#8), some (.orRR 0x05#8 0x06#8), some (.xorRR 0x05#8 0x06#8)] := by decide

/-- The words of opcodes 0x27 to 0x2A, 0x31 and 0x32, from the encodings of R85 to R88, R95, R96. -/
theorem test_decode_arithmetic_and_compare :
    [firstOf [0x27#8, 0x05#8, 0x06#8],
     firstOf [0x28#8, 0x05#8, 0x06#8],
     firstOf [0x29#8, 0x05#8, 0x06#8],
     firstOf [0x2A#8, 0x05#8, 0x06#8],
     firstOf [0x31#8, 0x05#8, 0x06#8],
     firstOf [0x32#8, 0x05#8, 0xFE#8]] =
    [some (.mulRR 0x05#8 0x06#8), some (.divRR 0x05#8 0x06#8), some (.addRR 0x05#8 0x06#8), some (.subRR 0x05#8 0x06#8), some (.cmpRR 0x05#8 0x06#8), some (.cmpLit8 0x05#8 0xFE#8)] := by decide

/-- The words of opcodes 0x2B to 0x30, from the encodings of R89 to R94: the target is high byte first. -/
theorem test_decode_jump :
    [firstOf [0x2B#8, 0x12#8, 0x34#8],
     firstOf [0x2C#8, 0x12#8, 0x34#8],
     firstOf [0x2D#8, 0x12#8, 0x34#8],
     firstOf [0x2E#8, 0x12#8, 0x34#8],
     firstOf [0x2F#8, 0x12#8, 0x34#8],
     firstOf [0x30#8, 0x12#8, 0x34#8]] =
    [some (.jmp 0x1234#16), some (.call 0x1234#16), some (.je 0x1234#16), some (.jne 0x1234#16), some (.jo 0x1234#16), some (.jno 0x1234#16)] := by decide

/-- The words of opcodes 0x40 to 0x48, from the encodings of R97 to R105: the target is high byte first. -/
theorem test_decode_three_operand :
    [firstOf [0x40#8, 0x05#8, 0x12#8, 0x34#8],
     firstOf [0x41#8, 0x05#8, 0x12#8, 0x34#8],
     firstOf [0x42#8, 0x05#8, 0x12#8, 0x34#8],
     firstOf [0x43#8, 0x05#8, 0x12#8, 0x34#8],
     firstOf [0x44#8, 0x05#8, 0x12#8, 0x34#8],
     firstOf [0x45#8, 0x05#8, 0x12#8, 0x34#8],
     firstOf [0x46#8, 0x05#8, 0x12#8, 0x34#8],
     firstOf [0x47#8, 0x05#8, 0x12#8, 0x34#8],
     firstOf [0x48#8, 0x05#8, 0x12#8, 0x34#8]] =
    [some (.lpm 0x05#8 0x1234#16), some (.andLit16 0x05#8 0x1234#16), some (.orLit16 0x05#8 0x1234#16), some (.xorLit16 0x05#8 0x1234#16), some (.addLit16 0x05#8 0x1234#16), some (.subLit16 0x05#8 0x1234#16), some (.cmpLit16 0x05#8 0x1234#16), some (.int 0x05#8 0x1234#16), some (.movLit16 0x05#8 0x1234#16)] := by decide

/-- The unassigned opcodes of one byte, R106. -/
theorem test_decode_unassigned_one_byte :
    [firstOf [0x00#8],
     firstOf [0x07#8],
     firstOf [0x08#8],
     firstOf [0x09#8],
     firstOf [0x0A#8],
     firstOf [0x0B#8],
     firstOf [0x0C#8],
     firstOf [0x0D#8],
     firstOf [0x0E#8],
     firstOf [0x0F#8]] =
    [some .unassigned00, some .unassigned07, some .unassigned08, some .unassigned09, some .unassigned0A, some .unassigned0B, some .unassigned0C, some .unassigned0D, some .unassigned0E, some .unassigned0F] := by decide

/-- The unassigned opcodes of two bytes, R107. -/
theorem test_decode_unassigned_two_bytes :
    [firstOf [0x14#8, 0xA1#8],
     firstOf [0x15#8, 0xA1#8],
     firstOf [0x16#8, 0xA1#8],
     firstOf [0x17#8, 0xA1#8],
     firstOf [0x18#8, 0xA1#8],
     firstOf [0x19#8, 0xA1#8],
     firstOf [0x1A#8, 0xA1#8],
     firstOf [0x1B#8, 0xA1#8],
     firstOf [0x1C#8, 0xA1#8],
     firstOf [0x1D#8, 0xA1#8],
     firstOf [0x1E#8, 0xA1#8],
     firstOf [0x1F#8, 0xA1#8]] =
    [some (.unassigned14 0xA1#8), some (.unassigned15 0xA1#8), some (.unassigned16 0xA1#8), some (.unassigned17 0xA1#8), some (.unassigned18 0xA1#8), some (.unassigned19 0xA1#8), some (.unassigned1A 0xA1#8), some (.unassigned1B 0xA1#8), some (.unassigned1C 0xA1#8), some (.unassigned1D 0xA1#8), some (.unassigned1E 0xA1#8), some (.unassigned1F 0xA1#8)] := by decide

/-- The unassigned opcodes of three bytes, R108. -/
theorem test_decode_unassigned_three_bytes :
    [firstOf [0x33#8, 0xA1#8, 0xA2#8],
     firstOf [0x34#8, 0xA1#8, 0xA2#8],
     firstOf [0x35#8, 0xA1#8, 0xA2#8],
     firstOf [0x36#8, 0xA1#8, 0xA2#8],
     firstOf [0x37#8, 0xA1#8, 0xA2#8],
     firstOf [0x38#8, 0xA1#8, 0xA2#8],
     firstOf [0x39#8, 0xA1#8, 0xA2#8],
     firstOf [0x3A#8, 0xA1#8, 0xA2#8],
     firstOf [0x3B#8, 0xA1#8, 0xA2#8],
     firstOf [0x3C#8, 0xA1#8, 0xA2#8],
     firstOf [0x3D#8, 0xA1#8, 0xA2#8],
     firstOf [0x3E#8, 0xA1#8, 0xA2#8],
     firstOf [0x3F#8, 0xA1#8, 0xA2#8]] =
    [some (.unassigned33 0xA1#8 0xA2#8), some (.unassigned34 0xA1#8 0xA2#8), some (.unassigned35 0xA1#8 0xA2#8), some (.unassigned36 0xA1#8 0xA2#8), some (.unassigned37 0xA1#8 0xA2#8), some (.unassigned38 0xA1#8 0xA2#8), some (.unassigned39 0xA1#8 0xA2#8), some (.unassigned3A 0xA1#8 0xA2#8), some (.unassigned3B 0xA1#8 0xA2#8), some (.unassigned3C 0xA1#8 0xA2#8), some (.unassigned3D 0xA1#8 0xA2#8), some (.unassigned3E 0xA1#8 0xA2#8), some (.unassigned3F 0xA1#8 0xA2#8)] := by decide

/-- The unassigned opcodes of four bytes, R109. -/
theorem test_decode_unassigned_four_bytes :
    [firstOf [0x49#8, 0xA1#8, 0xA2#8, 0xA3#8],
     firstOf [0x4A#8, 0xA1#8, 0xA2#8, 0xA3#8],
     firstOf [0x4B#8, 0xA1#8, 0xA2#8, 0xA3#8],
     firstOf [0x4C#8, 0xA1#8, 0xA2#8, 0xA3#8],
     firstOf [0x4D#8, 0xA1#8, 0xA2#8, 0xA3#8],
     firstOf [0x4E#8, 0xA1#8, 0xA2#8, 0xA3#8],
     firstOf [0x4F#8, 0xA1#8, 0xA2#8, 0xA3#8]] =
    [some (.unassigned49 0xA1#8 0xA2#8 0xA3#8), some (.unassigned4A 0xA1#8 0xA2#8 0xA3#8), some (.unassigned4B 0xA1#8 0xA2#8 0xA3#8), some (.unassigned4C 0xA1#8 0xA2#8 0xA3#8), some (.unassigned4D 0xA1#8 0xA2#8 0xA3#8), some (.unassigned4E 0xA1#8 0xA2#8 0xA3#8), some (.unassigned4F 0xA1#8 0xA2#8 0xA3#8)] := by decide

/-- The ends of the three illegal ranges of R61, and the bytes after them untouched. -/
theorem test_decode_illegal :
    [decode [0x50#8], decode [0x5F#8], decode [0x60#8], decode [0x7F#8, 1#8], decode [0x80#8], decode [0xFF#8]] =
    [.ok (.illegal50 0x50#8, []), .ok (.illegal50 0x5F#8, []), .ok (.illegal60 0x60#8, []),
     .ok (.illegal60 0x7F#8, [1#8]), .ok (.illegal80 0x80#8, []), .ok (.illegal80 0xFF#8, [])] := by decide

/-- A list that ends too early is refused by name (R52). -/
theorem test_decode_truncated :
    [decode [], decode [0x10#8], decode [0x48#8, 5#8, 0x12#8]] =
    [.error .noOpcodeByte, .error (.operandBytesMissing 0x10#8), .error (.operandBytesMissing 0x48#8)] := by decide

/-- A table word is numbered from the least significant bit of the first byte: `10 03` is INC R3. -/
theorem test_decodeTableWord : decodeTableWord 16 0x0310 = some (.inc 3#8) := by decide

/-- A table word without its operand bits: LPM with operand bytes of zero, run as the first instruction after reset. -/
theorem test_withFetchWord :
    (match step (State.reset.withFetchWord 8 0x40) with | .next t => t.cell 0#8 | _ => 0#16) = 0x4000#16 := by decide

/-! ### One step of each instruction -/

/-- spec 95_test_vectors.md V-C1. -/
theorem test_nop : stepGives [] [0x01#8] [(0#8, 0x0001#16), (1#8, 0x00FC#16), (2#8, 0x0000#16)] = true := by decide

/-- spec 95_test_vectors.md V-C2. -/
theorem test_ret : stepGives [(253#8, 0x0123#16)] [0x02#8] [(0#8, 0x0123#16), (1#8, 0x00FD#16)] = true := by decide

/-- spec 95_test_vectors.md V-C3. -/
theorem test_ret_reads_pc : stepGives [(1#8, 0x00FF#16)] [0x02#8] [(0#8, 0x0001#16), (1#8, 0x0100#16)] = true := by decide

/-- spec 95_test_vectors.md V-C4. -/
theorem test_reti : stepGives [(253#8, 0x0200#16), (254#8, 0x0004#16)] [0x03#8] [(0#8, 0x0200#16), (2#8, 0x0004#16), (1#8, 0x00FE#16)] = true := by decide

/-- spec 95_test_vectors.md V-C5. -/
theorem test_reti_reads_sp : stepGives [(1#8, 0x0000#16)] [0x03#8] [(0#8, 0x0001#16), (1#8, 0x0002#16), (2#8, 0x0000#16)] = true := by decide

/-- spec 95_test_vectors.md V-C7. -/
theorem test_cli : stepGives [(2#8, 0x0007#16)] [0x04#8] [(0#8, 0x0001#16), (2#8, 0x0003#16)] = true := by decide

/-- spec 95_test_vectors.md V-C9. -/
theorem test_sti : stepGives [(2#8, 0xF000#16)] [0x05#8] [(2#8, 0xF004#16)] = true := by decide

/-- spec 95_test_vectors.md V-C10. -/
theorem test_hlt : stepGives [(2#8, 0x0001#16)] [0x06#8] [(0#8, 0x0001#16), (2#8, 0x0009#16)] = true := by decide

/-- spec 95_test_vectors.md V-SR4. -/
theorem test_inc_carry : stepGives [(3#8, 0xFFFE#16)] [0x10#8, 0x03#8] [(3#8, 0xFFFF#16), (2#8, 0x0002#16), (0#8, 0x0002#16)] = true := by decide

/-- spec 95_test_vectors.md V-SR5. -/
theorem test_inc_flags : stepGives [(2#8, 0x0007#16)] [0x10#8, 0x02#8] [(2#8, 0x0008#16)] = true := by decide

/-- spec 95_test_vectors.md V-SR7. -/
theorem test_dec_zero : stepGives [(3#8, 0x0001#16)] [0x11#8, 0x03#8] [(3#8, 0x0000#16), (2#8, 0x0001#16)] = true := by decide

/-- spec 95_test_vectors.md V-SR9. -/
theorem test_dec_carry : stepGives [(3#8, 0x8000#16)] [0x11#8, 0x03#8] [(3#8, 0x7FFF#16), (2#8, 0x0002#16)] = true := by decide

/-- spec 95_test_vectors.md V-SR11. -/
theorem test_push_sp : stepGives [] [0x12#8, 0x01#8] [(252#8, 0x00FC#16), (1#8, 0x00FB#16)] = true := by decide

/-- spec 95_test_vectors.md V-SR14. -/
theorem test_push_into_sp : stepGives [(3#8, 0x0064#16), (1#8, 0x0001#16)] [0x12#8, 0x03#8] [(1#8, 0x0063#16)] = true := by decide

/-- spec 95_test_vectors.md V-SR16. -/
theorem test_pop_reads_pc : stepGives [(1#8, 0xFFFF#16)] [0x13#8, 0x04#8] [(1#8, 0x0000#16), (4#8, 0x0002#16)] = true := by decide

/-- spec 95_test_vectors.md V-SR17. -/
theorem test_pop_sp : stepGives [(253#8, 0x0010#16)] [0x13#8, 0x01#8] [(1#8, 0x0010#16)] = true := by decide

/-- spec 95_test_vectors.md V-M1. -/
theorem test_mov_rr : stepGives [(4#8, 0xABCD#16), (2#8, 0x0003#16)] [0x20#8, 0x03#8, 0x04#8] [(3#8, 0xABCD#16), (0#8, 0x0003#16), (2#8, 0x0003#16)] = true := by decide

/-- spec 95_test_vectors.md V-M2. -/
theorem test_mov_load : stepGives [(4#8, 0x0164#16), (100#8, 0x5555#16)] [0x21#8, 0x03#8, 0x04#8] [(3#8, 0x5555#16)] = true := by decide

/-- spec 95_test_vectors.md V-M3. -/
theorem test_mov_load_pc : stepGives [(4#8, 0x0100#16)] [0x21#8, 0x03#8, 0x04#8] [(3#8, 0x0003#16)] = true := by decide

/-- spec 95_test_vectors.md V-M4. -/
theorem test_mov_store : stepGives [(3#8, 0x00C8#16), (4#8, 0x7777#16)] [0x22#8, 0x03#8, 0x04#8] [(200#8, 0x7777#16)] = true := by decide

/-- spec 95_test_vectors.md V-M5. -/
theorem test_mov_store_pc : stepGives [(3#8, 0x0000#16), (4#8, 0x0030#16)] [0x22#8, 0x03#8, 0x04#8] [(0#8, 0x0030#16)] = true := by decide

/-- spec 95_test_vectors.md V-M9. -/
theorem test_mov_lit8 : stepGives [] [0x23#8, 0x03#8, 0x80#8] [(3#8, 0xFF80#16)] = true := by decide

/-- spec 95_test_vectors.md V-M11. -/
theorem test_mov_lit8_flags : stepGives [] [0x23#8, 0x02#8, 0x08#8] [(2#8, 0x0008#16)] = true := by decide

/-- spec 95_test_vectors.md V-L2. -/
theorem test_and_rr : stepGives [(3#8, 0xF000#16), (4#8, 0x0FFF#16), (2#8, 0x0002#16)] [0x24#8, 0x03#8, 0x04#8] [(3#8, 0x0000#16), (2#8, 0x0003#16)] = true := by decide

/-- spec 95_test_vectors.md V-L3. -/
theorem test_or_rr : stepGives [(3#8, 0x00F0#16), (4#8, 0x0F00#16)] [0x25#8, 0x03#8, 0x04#8] [(3#8, 0x0FF0#16), (2#8, 0x0000#16)] = true := by decide

/-- spec 95_test_vectors.md V-L5. -/
theorem test_xor_rr : stepGives [(3#8, 0x1234#16)] [0x26#8, 0x03#8, 0x03#8] [(3#8, 0x0000#16), (2#8, 0x0001#16)] = true := by decide

/-- spec 95_test_vectors.md V-A1. -/
theorem test_mul : stepGives [(3#8, 0x012C#16), (4#8, 0x012C#16)] [0x27#8, 0x03#8, 0x04#8] [(3#8, 0x5F90#16), (2#8, 0x0002#16)] = true := by decide

/-- spec 95_test_vectors.md V-A3. -/
theorem test_mul_high : stepGives [(3#8, 0x0400#16), (4#8, 0x0400#16)] [0x27#8, 0x03#8, 0x04#8] [(3#8, 0x0000#16), (2#8, 0x0001#16)] = true := by decide

/-- spec 95_test_vectors.md V-A8. -/
theorem test_div_negative : stepGives [(3#8, 0xFFF9#16), (4#8, 0x0002#16)] [0x28#8, 0x03#8, 0x04#8] [(3#8, 0xFFFD#16), (2#8, 0x0000#16)] = true := by decide

/-- spec 95_test_vectors.md V-A12. -/
theorem test_div_overflow : stepGives [(3#8, 0x8000#16), (4#8, 0xFFFF#16)] [0x28#8, 0x03#8, 0x04#8] [(3#8, 0x8000#16), (2#8, 0x0000#16)] = true := by decide

/-- spec 95_test_vectors.md V-A14. -/
theorem test_add_keeps_zero : stepGives [(3#8, 0x0002#16), (4#8, 0x0003#16), (2#8, 0x0001#16)] [0x29#8, 0x03#8, 0x04#8] [(3#8, 0x0005#16), (2#8, 0x0001#16)] = true := by decide

/-- spec 95_test_vectors.md V-A17. -/
theorem test_add_carry : stepGives [(3#8, 0x8000#16), (4#8, 0x8000#16)] [0x29#8, 0x03#8, 0x04#8] [(3#8, 0x0000#16), (2#8, 0x0002#16)] = true := by decide

/-- spec 95_test_vectors.md V-A20. -/
theorem test_sub : stepGives [(3#8, 0x0003#16), (4#8, 0x0005#16)] [0x2A#8, 0x03#8, 0x04#8] [(3#8, 0xFFFE#16), (2#8, 0x0002#16)] = true := by decide

/-- spec 95_test_vectors.md V-A23. -/
theorem test_sub_flags : stepGives [(2#8, 0x0002#16), (3#8, 0x0000#16)] [0x2A#8, 0x02#8, 0x03#8] [(2#8, 0x0001#16)] = true := by decide

/-- spec 95_test_vectors.md V-J1. -/
theorem test_jmp : stepGives [] [0x2B#8, 0x12#8, 0x34#8] [(0#8, 0x1234#16)] = true := by decide

/-- spec 95_test_vectors.md V-J3. -/
theorem test_call : stepGives [] [0x2C#8, 0x00#8, 0x20#8] [(252#8, 0x0003#16), (1#8, 0x00FB#16), (0#8, 0x0020#16)] = true := by decide

/-- spec 95_test_vectors.md V-J4. -/
theorem test_je_taken : stepGives [(2#8, 0x0001#16)] [0x2D#8, 0x00#8, 0x40#8] [(0#8, 0x0040#16)] = true := by decide

/-- spec 95_test_vectors.md V-J5. -/
theorem test_je_not_taken : stepGives [] [0x2D#8, 0x00#8, 0x40#8] [(0#8, 0x0003#16)] = true := by decide

/-- spec 95_test_vectors.md V-J6. -/
theorem test_jne_taken : stepGives [] [0x2E#8, 0x00#8, 0x40#8] [(0#8, 0x0040#16)] = true := by decide

/-- spec 95_test_vectors.md V-J7. -/
theorem test_jne_not_taken : stepGives [(2#8, 0x0001#16)] [0x2E#8, 0x00#8, 0x40#8] [(0#8, 0x0003#16)] = true := by decide

/-- spec 95_test_vectors.md V-J8. -/
theorem test_jo_taken : stepGives [(2#8, 0x0002#16)] [0x2F#8, 0x00#8, 0x40#8] [(0#8, 0x0040#16)] = true := by decide

/-- spec 95_test_vectors.md V-J9. -/
theorem test_jo_not_taken : stepGives [] [0x2F#8, 0x00#8, 0x40#8] [(0#8, 0x0003#16)] = true := by decide

/-- spec 95_test_vectors.md V-J10. -/
theorem test_jno_taken : stepGives [] [0x30#8, 0x00#8, 0x40#8] [(0#8, 0x0040#16)] = true := by decide

/-- spec 95_test_vectors.md V-J11. -/
theorem test_jno_not_taken : stepGives [(2#8, 0x0002#16)] [0x30#8, 0x00#8, 0x40#8] [(0#8, 0x0003#16)] = true := by decide

/-- spec 95_test_vectors.md V-K4. -/
theorem test_cmp_rr_signed : stepGives [(3#8, 0xFFFF#16), (4#8, 0x0001#16)] [0x31#8, 0x03#8, 0x04#8] [(2#8, 0x0002#16), (3#8, 0xFFFF#16), (4#8, 0x0001#16)] = true := by decide

/-- spec 95_test_vectors.md V-K3. -/
theorem test_cmp_rr_clears : stepGives [(3#8, 0x0002#16), (4#8, 0x0001#16), (2#8, 0x0003#16)] [0x31#8, 0x03#8, 0x04#8] [(2#8, 0x0000#16)] = true := by decide

/-- spec 95_test_vectors.md V-K5. -/
theorem test_cmp_lit8 : stepGives [(3#8, 0xFFFF#16)] [0x32#8, 0x03#8, 0xFF#8] [(2#8, 0x0001#16)] = true := by decide

/-- spec 95_test_vectors.md V-K7. -/
theorem test_cmp_lit8_negative : stepGives [(3#8, 0x0080#16)] [0x32#8, 0x03#8, 0x80#8] [(2#8, 0x0000#16)] = true := by decide

/-- spec 95_test_vectors.md V-M16. -/
theorem test_lpm_high : stepGives [] [0x40#8, 0x03#8, 0x00#8, 0x10#8, 0x00#8, 0x00#8, 0x00#8, 0x00#8, 0x00#8, 0x00#8, 0x00#8, 0x00#8, 0x00#8, 0x00#8, 0x00#8, 0x00#8, 0x01#8, 0xFF#8] [(3#8, 0x01FF#16), (0#8, 0x0004#16)] = true := by decide

/-- spec 95_test_vectors.md V-M18. -/
theorem test_lpm_itself : stepGives [] [0x40#8, 0x03#8, 0x00#8, 0x00#8] [(3#8, 0x4003#16)] = true := by decide

/-- spec 95_test_vectors.md V-L7. -/
theorem test_and_lit16 : stepGives [(3#8, 0x1234#16)] [0x41#8, 0x03#8, 0x00#8, 0xFF#8] [(3#8, 0x0034#16), (2#8, 0x0000#16)] = true := by decide

/-- spec 95_test_vectors.md V-L10. -/
theorem test_or_lit16_flags : stepGives [(2#8, 0x0001#16)] [0x42#8, 0x02#8, 0x00#8, 0x08#8] [(2#8, 0x0008#16)] = true := by decide

/-- spec 95_test_vectors.md V-L11. -/
theorem test_xor_lit16 : stepGives [(3#8, 0x00FF#16)] [0x43#8, 0x03#8, 0xFF#8, 0xFF#8] [(3#8, 0xFF00#16), (2#8, 0x0000#16)] = true := by decide

/-- spec 95_test_vectors.md V-A25. -/
theorem test_add_lit16 : stepGives [(3#8, 0x8000#16)] [0x44#8, 0x03#8, 0x80#8, 0x00#8] [(3#8, 0x0000#16), (2#8, 0x0003#16)] = true := by decide

/-- spec 95_test_vectors.md V-A28. -/
theorem test_add_lit16_flags : stepGives [(2#8, 0x0001#16)] [0x44#8, 0x02#8, 0x00#8, 0x10#8] [(2#8, 0x0010#16)] = true := by decide

/-- spec 95_test_vectors.md V-A30. -/
theorem test_sub_lit16 : stepGives [(3#8, 0x0000#16)] [0x45#8, 0x03#8, 0x00#8, 0x01#8] [(3#8, 0xFFFF#16), (2#8, 0x0002#16)] = true := by decide

/-- spec 95_test_vectors.md V-K10. -/
theorem test_cmp_lit16 : stepGives [(3#8, 0x0000#16)] [0x46#8, 0x03#8, 0x7F#8, 0xFF#8] [(2#8, 0x0002#16)] = true := by decide

/-- spec 95_test_vectors.md V-M12. -/
theorem test_mov_lit16 : stepGives [] [0x48#8, 0x05#8, 0x12#8, 0x34#8] [(5#8, 0x1234#16), (0#8, 0x0004#16)] = true := by decide

/-- spec 95_test_vectors.md V-U2. -/
theorem test_unassigned_one_byte : stepGives [] [0x0F#8] [(0#8, 0x0001#16), (1#8, 0x00FC#16), (2#8, 0x0000#16)] = true := by decide

/-- spec 95_test_vectors.md V-U3. -/
theorem test_unassigned_two_bytes : stepGives [] [0x14#8, 0x03#8] [(0#8, 0x0002#16), (1#8, 0x00FC#16), (2#8, 0x0000#16)] = true := by decide

/-- spec 95_test_vectors.md V-U5. -/
theorem test_unassigned_three_bytes : stepGives [] [0x3F#8, 0x03#8, 0x04#8] [(0#8, 0x0003#16), (1#8, 0x00FC#16), (2#8, 0x0000#16)] = true := by decide

/-- spec 95_test_vectors.md V-U7. -/
theorem test_unassigned_four_bytes : stepGives [] [0x4F#8, 0x03#8, 0x04#8, 0x05#8] [(0#8, 0x0004#16), (1#8, 0x00FC#16), (2#8, 0x0000#16)] = true := by decide

/-- spec 95_test_vectors.md V-I2: INT 31 writes the last entry. -/
theorem test_int :
    (match step (startState [] [0x47#8, 0x1F#8, 0xAB#8, 0xCD#8]) with
      | .next t => (t.ivtRead 31, t.cell 0#8) | _ => (0#16, 0#16)) = (0xABCD#16, 0x0004#16) := by decide

/-- spec 95_test_vectors.md V-I3: INT 32 changes no entry (90_conflicts.md C2). -/
theorem test_int_out_of_range :
    (match step (startState [] [0x47#8, 0x20#8, 0xAB#8, 0xCD#8]) with
      | .next t => (t.ivt == State.reset.ivt, t.cell 0#8) | _ => (false, 0#16)) = (true, 0x0004#16) := by decide

/-! ### Faults, halting, reset -/

/-- spec 95_test_vectors.md V-A13. -/
theorem test_div_by_zero :
    stepRaises [(3#8, 9#16), (4#8, 0#16), (2#8, 3#16)] [0x28#8, 3#8, 4#8] .divideByZero 0#16 0x28#8
      [(3#8, 9#16), (2#8, 3#16), (0#8, 3#16)] = true := by decide

/-- spec 95_test_vectors.md V-M19. -/
theorem test_lpm_range :
    stepRaises [(3#8, 0x1111#16)] [0x40#8, 3#8, 0xFF#8, 0xFF#8] .lpmRangeFault 0#16 0x40#8
      [(3#8, 0x1111#16), (0#8, 4#16)] = true := by decide

/-- spec 95_test_vectors.md V-U8 and V-H1. -/
theorem test_illegal : stepRaises [] [0x50#8] .decodeFault 0#16 0x50#8 [(0#8, 1#16)] = true := by decide

/-- spec 95_test_vectors.md V-U9: at address 0x0010. -/
theorem test_illegal_at_address :
    stepRaises [(0#8, 0x10#16)] (List.replicate 16 0#8 ++ [0xFF#8]) .decodeFault 0x10#16 0xFF#8 [(0#8, 0x11#16)] =
      true := by decide

/-- spec 95_test_vectors.md V-H3: a halted machine takes no step. -/
theorem test_halted : (startState [(2#8, 9#16)] []).hostStep.2 = .noStep := by decide

/-- spec 95_test_vectors.md P-3 and V-H2: what `reset()` writes, and that it keeps cells 3 to 255. -/
theorem test_hostReset :
    (let s := ((startState [(0#8, 7#16), (1#8, 8#16), (2#8, 9#16), (3#8, 6#16)] []).ivtWrite 5 0x40#16).raise
       .decodeFault 1 0x50#8
     let t := s.hostReset
     (t.pc, t.sp, t.flags, t.cell 3#8, t.ivtRead 5, t.faultCode)) = (0#16, 252#16, 0#16, 6#16, 0#16, .none) := by
  decide

/-- spec 95_test_vectors.md V-J2: the fetch wraps past 0xFFFF (R21). -/
theorem test_fetch_wraps :
    (match step ((startState [(0#8, 0xFFFD#16)] []).loadByte 0xFFFD#16 0x2B#8) with
      | .next t => t.cell 0#8 | _ => 1#16) = 0#16 := by decide

/-! ### Witnesses: states and operands that meet the hypotheses of each obligation that has some -/

/-- Whether a result is a next state with a property. -/
def nextIs (r : Result) (p : State → Bool) : Bool :=
  match r with
  | .next t => p t
  | _ => false

theorem exists_of_nextIs {r : Result} {p : State → Bool} (h : nextIs r p = true) : ∃ t, r = .next t ∧ p t = true := by
  cases r with
  | next t => exact ⟨t, rfl, h⟩
  | fault f => simp [nextIs] at h
  | refused f => simp [nextIs] at h

/-- A state that is running and records no fault, about to execute these bytes. -/
def readyState (bytes : List Byte) : State := startState [(1#8, 100#16), (3#8, 7#16)] bytes

/-- A state that records a fault, whose vector table and fault record differ from those of the reset state. -/
def faultedState : State := ((startState [] []).ivtWrite 3 1#16).raise .divideByZero 3 0x28#8

/-- A halted state. -/
def haltedState : State := startState [(2#8, 8#16)] []

theorem test_witness_DecodeOfEncodeIsTheInstruction :
    (Instr.illegal50 0x5F#8).WellFormed ∧ (Instr.illegal60 0x60#8).WellFormed ∧ (Instr.illegal80 0xFF#8).WellFormed ∧
      (Instr.lpm 2#8 0xFFFF#16).WellFormed := by decide

theorem test_witness_EncodeOfDecodeIsTheBytes : decode [0x10#8, 3#8, 9#8] = .ok (.inc 3#8, [9#8]) := by decide

/-- Each clause at the ends of its range: 0x00 and 0x0F, 0x10 and 0x1F, 0x20 and 0x3F, 0x40 and 0x4F, 0x50 and 0xFF. -/
theorem test_witness_LengthIsFixedByOpcodeRange :
    ([0x00#8, 0x0F#8].all (fun op : Byte => decide (op.toNat < 0x10)) &&
     [0x10#8, 0x1F#8].all (fun op : Byte => decide (0x10 ≤ op.toNat ∧ op.toNat < 0x20)) &&
     [0x20#8, 0x3F#8].all (fun op : Byte => decide (0x20 ≤ op.toNat ∧ op.toNat < 0x40)) &&
     [0x40#8, 0x4F#8].all (fun op : Byte => decide (0x40 ≤ op.toNat ∧ op.toNat < 0x50)) &&
     [0x50#8, 0xFF#8].all (fun op : Byte => decide (0x50 ≤ op.toNat))) = true := by decide

/-- The lengths at the ends of the ranges of R52, where the clauses meet. -/
theorem test_lengths_at_range_ends :
    [0x00#8, 0x0F#8, 0x10#8, 0x1F#8, 0x20#8, 0x3F#8, 0x40#8, 0x4F#8, 0x50#8, 0xFF#8].map
      (fun op => (instrOf op 1#8 2#8 3#8).length) = [1, 1, 2, 2, 3, 3, 4, 4, 1, 1] := by decide

theorem test_witness_StepRunsTheDecodedInstruction :
    (readyState [0x10#8, 3#8]).faultCode = .none ∧ (readyState [0x10#8, 3#8]).isRunning = true ∧
      (readyState [0x10#8, 3#8]).pc = 0#16 ∧
      decode ([0#16, 1#16, 2#16, 3#16].map (readyState [0x10#8, 3#8]).memRead) = .ok (.inc 3#8, [0#8, 0#8]) := by decide

/-- Of RunningMachineCompletesEveryStep and of each clause of HostStepReturnsWhatTheSpecSays and
OnlyResetEndsAFaultOrAHalt. -/
theorem test_witness_ready_faulted_halted :
    ((readyState []).faultCode = .none ∧ (readyState []).isRunning = true) ∧
    (faultedState.faultCode ≠ .none ∧ faultedState.isRunning = true) ∧
    (haltedState.faultCode = .none ∧ haltedState.isRunning = false) := by decide

/-- Each clause at the ends of its range of opcodes, and NOP. -/
theorem test_witness_NoOperationStepOnlyMovesThePc :
    [0x00#8, 0x01#8, 0x07#8, 0x0F#8, 0x14#8, 0x1F#8, 0x33#8, 0x3F#8, 0x49#8, 0x4F#8].all (fun op =>
      (readyState [op]).memRead (readyState [op]).pc == op && (readyState [op]).faultCode == .none &&
        (readyState [op]).isRunning) = true := by decide

/-- The ends of the range of opcodes. -/
theorem test_witness_IllegalOpcodeStepRaisesDecodeFault :
    [0x50#8, 0xFF#8].all (fun op =>
      (readyState [op]).memRead (readyState [op]).pc == op && (readyState [op]).faultCode == .none &&
        (readyState [op]).isRunning) = true := by decide

/-- One step that raises each fault. -/
theorem test_witness_FaultsArePrecise :
    (∃ t, step (readyState [0xFF#8]) = .next t ∧ (t.faultCode == .decodeFault) = true) ∧
    (∃ t, step (readyState [0x28#8, 3#8, 4#8]) = .next t ∧ (t.faultCode == .divideByZero) = true) ∧
    (∃ t, step (readyState [0x40#8, 3#8, 0xFF#8, 0xFF#8]) = .next t ∧ (t.faultCode == .lpmRangeFault) = true) :=
  ⟨exists_of_nextIs (by decide), exists_of_nextIs (by decide), exists_of_nextIs (by decide)⟩

/-- Of FaultsHaveExactlyTheirCauses, NoStepWritesTheInstructionStream and OnlyIntWritesTheVectorTable: steps that
complete without a fault, an INT among them. -/
theorem test_witness_step_answers_next :
    (∃ t, step (readyState [0x10#8, 3#8]) = .next t ∧ (t.faultCode == .none) = true) ∧
    (∃ t, step (readyState [0x47#8, 31#8, 1#8, 2#8]) = .next t ∧ (t.ivtRead 31 == 0x0102#16) = true) :=
  ⟨exists_of_nextIs (by decide), exists_of_nextIs (by decide)⟩

theorem test_witness_StepKeepsTheInvariant :
    (readyState [0xFF#8]).Inv ∧ ∃ t, step (readyState [0xFF#8]) = .next t ∧ (t.faultCode == .decodeFault) = true :=
  ⟨⟨by decide, trivial⟩, exists_of_nextIs (by decide)⟩

/-- Of ResetMeetsTheInvariant and CanonicalStreamIsDeterminedByItsBytes: a stream in canonical form. -/
theorem test_witness_canonical_stream : Memory.wf [(0, 1#8), (65535, 2#8)] ∧ (readyState [1#8, 0#8, 2#8]).imem.wf := by
  decide

/-- Two states that differ in the vector table and the fault record, of which the one steps and the other stops. -/
theorem test_witness_ProgramsCannotSeeVectorsOrFaultRecords :
    (∃ s s', SameForPrograms s s' ∧ s.ivt ≠ s'.ivt ∧ s.faultPc ≠ s'.faultPc ∧ ∃ t, step s = .next t ∧ (t.faultCode == .none) = true) ∧
    ∃ s s', SameForPrograms s s' ∧ s.ivt ≠ s'.ivt ∧ step s = .fault .divideByZero :=
  ⟨⟨readyState [1#8], (({ readyState [1#8] with faultPc := 9#16 } : State).ivtWrite 3 1#16),
      ⟨fun _ => rfl, rfl, fun _ => rfl⟩, by decide, by decide, exists_of_nextIs (by decide)⟩,
    ⟨faultedState, faultedState.ivtWrite 3 2#16, ⟨fun _ => rfl, rfl, fun _ => rfl⟩, by decide, rfl⟩⟩

/-- Of IncThenDecRestoresTheCell and AddThenSubRestoresTheCell: operands that differ from the flags and each other. -/
theorem test_witness_operands_not_flags : (0#8 : Byte) ≠ 2#8 ∧ (255#8 : Byte) ≠ 2#8 ∧ (0#8 : Byte) ≠ 255#8 := by decide

/-- Of PushThenPopMovesTheValue and CallThenRetReturns, at the lowest and the highest stack index and register, and
for a stack pointer above 255. -/
theorem test_witness_stack_index :
    3 ≤ (cellIndex (startState [(1#8, 3#16)] []).sp).toNat ∧ 3 ≤ (cellIndex (startState [(1#8, 0x12FF#16)] []).sp).toNat ∧
      3 ≤ (3#8 : Byte).toNat ∧ 3 ≤ (255#8 : Byte).toNat := by decide

/-- At the lowest and the highest stack index. -/
theorem test_witness_RetiConsumesThePushedFrame :
    4 ≤ (cellIndex (startState [(1#8, 4#16)] []).sp).toNat ∧
      4 ≤ (cellIndex (startState [(1#8, 255#16)] []).sp).toNat := by decide

/-- Of LaunchedStateHoldsTheResetValues: the ends of the general cells. -/
theorem test_witness_general_cells : 3 ≤ (3#8 : Byte).toNat ∧ 3 ≤ (255#8 : Byte).toNat := by decide

/-- Of HltHaltsTheMachine: its last clause. -/
theorem test_witness_HltHaltsTheMachine : State.reset.faultCode = .none := by decide

/-- Of DivTruncatesTowardZero and DivByZeroIsRecorded: a divisor of each kind. -/
theorem test_witness_divisors : (readyState []).cell 3#8 ≠ 0#16 ∧ (readyState []).cell 4#8 = 0#16 := by decide

/-- Of LpmLoadsABigEndianWord: the last target that does not fault. -/
theorem test_witness_LpmLoadsABigEndianWord : (0xFFFE#16 : Word) ≠ 0xFFFF#16 := by decide

/-- Of IntRegistersAVector: the first number that has no entry. -/
theorem test_witness_IntRegistersAVector : 32 ≤ (32#8 : Byte).toNat := by decide

end Sys2Proof.Tests
end

namespace Sys2Proof.Machine

/-! ### Opcodes whose instruction does nothing -/

/-- The opcode of NOP or an unassigned opcode of one of the four formats (R62, R68, R106 to R109). -/
def NoOperationOpcode (op : Byte) : Prop :=
  (op.toNat = 0x00 ∨ op.toNat = 0x01 ∨ (0x07 ≤ op.toNat ∧ op.toNat ≤ 0x0F)) ∨
    (0x14 ≤ op.toNat ∧ op.toNat ≤ 0x1F) ∨ (0x33 ≤ op.toNat ∧ op.toNat ≤ 0x3F) ∨ (0x49 ≤ op.toNat ∧ op.toNat ≤ 0x4F)

/-- `operandCount` by the numeric range of the opcode (R52). -/
theorem operandCount_eq (op : Byte) :
    operandCount op =
      if op.toNat < 0x10 then 0 else if op.toNat < 0x20 then 1 else if op.toNat < 0x40 then 2
      else if op.toNat < 0x50 then 3 else 0 := rfl

/-- Whatever its operand bytes, the instruction such an opcode names executes to the same state. -/
theorem exec_instrOf_of_noOperationOpcode {op : Byte} (h : NoOperationOpcode op) (a1 a2 a3 : Byte) (s : State) :
    exec (instrOf op a1 a2 a3) s = .next s := by
  rw [NoOperationOpcode] at h
  rw [instrOf]
  generalize op.toNat = n at h ⊢
  rcases h with (rfl | rfl | ⟨hlo, hhi⟩) | ⟨hlo, hhi⟩ | ⟨hlo, hhi⟩ | ⟨hlo, hhi⟩
  · rfl
  · rfl
  all_goals interval_cases n <;> rfl

/-- A step on such an opcode moves the program counter past the opcode byte and its operand bytes, and does nothing
else (R20, R62). -/
theorem step_of_noOperationOpcode {s : State} (hr : s.Ready) (h : NoOperationOpcode (s.memRead s.pc)) :
    step s = .next (s.setPc (s.pc + BitVec.ofNat 16 (operandCount (s.memRead s.pc) + 1))) := by
  rw [step_of_ready hr, State.fetch_spec]
  exact exec_instrOf_of_noOperationOpcode h _ _ _ _

/-- Settles O9: the step moves the program counter by the length of the opcode's format, one range of opcodes at a
time. -/
theorem noOperationStepOnlyMovesThePc : Obligations.NoOperationStepOnlyMovesThePc := by
  intro s hf hrun
  have hmove : ∀ k, NoOperationOpcode (s.memRead s.pc) → operandCount (s.memRead s.pc) = k →
      step s = .next (s.setCell 0#8 (s.pc + BitVec.ofNat 16 (k + 1))) := by
    rintro _ h rfl
    exact step_of_noOperationOpcode ⟨hf, hrun⟩ h
  refine ⟨fun h => hmove 0 (.inl h) ?_, fun h => hmove 1 (.inr (.inl h)) ?_,
    fun h => hmove 2 (.inr (.inr (.inl h))) ?_, fun h => hmove 3 (.inr (.inr (.inr h))) ?_⟩
  · rw [operandCount_eq, if_pos (by omega)]
  · rw [operandCount_eq, if_neg (by omega), if_pos (by omega)]
  · rw [operandCount_eq, if_neg (by omega), if_neg (by omega), if_pos (by omega)]
  · rw [operandCount_eq, if_neg (by omega), if_neg (by omega), if_neg (by omega), if_pos (by omega)]

end Sys2Proof.Machine

namespace Sys2Proof.Machine

/-! ### Moves and logic -/

/-- The index an operand selects is the low 8 bits of its cell (R37). -/
theorem cellIndex_eq_ofNat (v : Word) : cellIndex v = BitVec.ofNat 8 v.toNat := (BitVec.ofNat_toNat 8 v).symm

/-- The literal of MOV 0x23 is the pattern of the byte's signed value (R9, R57). -/
theorem sext16_eq_ofInt (b : Byte) : sext16 b = BitVec.ofInt 16 b.toInt := rfl

/-- Settles O39: each of the three is `writeZero` of its result, whose flags `State.writeZero_spec` gives. -/
theorem logicOfTwoRegisters : Obligations.LogicOfTwoRegisters := fun s a1 a2 =>
  ⟨⟨_, rfl, s.writeZero_spec a1 (s.cell a1 &&& s.cell a2)⟩,
    ⟨_, rfl, s.writeZero_spec a1 (s.cell a1 ||| s.cell a2)⟩,
    ⟨_, rfl, s.writeZero_spec a1 (s.cell a1 ^^^ s.cell a2)⟩⟩

/-- Settles O37: each of the three writes one cell, and the byte literal is its signed value. -/
theorem movOfRegisterAndLiterals : Obligations.MovOfRegisterAndLiterals := by
  intro s a1 a2 lit target
  refine ⟨⟨_, rfl, .setCell s a1 (s.cell a2)⟩, ⟨_, rfl, ?_⟩, ⟨_, rfl, .setCell s a1 target⟩⟩
  rw [← sext16_eq_ofInt]
  exact .setCell s a1 (sext16 lit)

/-- Settles O38: each of the two writes one cell, and an indirect index is the low 8 bits of the register. -/
theorem movThroughARegisterIndex : Obligations.MovThroughARegisterIndex := by
  intro s a1 a2
  refine ⟨⟨_, rfl, ?_⟩, ⟨_, rfl, cellIndex_eq_ofNat (s.cell a1), .setCell s (s.indirectIndex a1) (s.cell a2)⟩⟩
  rw [← cellIndex_eq_ofNat]
  exact .setCell s a1 (s.cell (s.indirectIndex a2))

/-! ### Jumps -/

/-- `t` is `s` with the program counter at `v`, and nothing else changed: what a jump does, taken or not. -/
def MovesPc (s t : State) (v : Word) : Prop :=
  (∀ i, t.cell i = if i = 0#8 then v else s.cell i) ∧ RestUnchanged s t

/-- A jump that is taken (R89). -/
theorem MovesPc.setPc (s : State) (v : Word) : MovesPc s (s.setPc v) v :=
  ⟨s.cell_setPc v, .of_fields rfl rfl rfl rfl rfl⟩

/-- A jump that is not taken leaves the program counter at the fall-through address (R20). -/
theorem MovesPc.refl (s : State) : MovesPc s s s.pc := by
  refine ⟨fun i => ?_, .of_fields rfl rfl rfl rfl rfl⟩
  split
  · next h => rw [h]; rfl
  · rfl

/-- A jump on a condition moves the program counter as the branch it takes does. -/
theorem MovesPc.ite {s t u : State} {v w : Word} (ht : MovesPc s t v) (hu : MovesPc s u w) (b : Bool) :
    MovesPc s (if b then t else u) (if b then v else w) := by
  cases b
  · exact hu
  · exact ht

/-- Settles O48: JMP is a jump that is always taken. -/
theorem jmpSetsThePc : Obligations.JmpSetsThePc := fun s target => ⟨_, rfl, MovesPc.setPc s target⟩

/-- Settles O50: JE takes the jump where ZERO is set, JNE where it is clear. -/
theorem jumpsOnZero : Obligations.JumpsOnZero := fun s target =>
  ⟨⟨_, rfl, MovesPc.ite (.setPc s target) (.refl s) (s.flag .zero)⟩,
    ⟨_, rfl, MovesPc.ite (.refl s) (.setPc s target) (s.flag .zero)⟩⟩

end Sys2Proof.Machine

namespace Sys2Proof.Machine

/-! ### Logic with a literal -/

/-- Settles O40: like the register forms, each of the three is `writeZero` of its result, and `State.writeZero_spec`
gives ZERO from the result and CARRY as the write of the destination left it, also where that is the flags cell. -/
theorem logicWithALiteral : Obligations.LogicWithALiteral := fun s a1 target =>
  ⟨⟨_, rfl, s.writeZero_spec a1 (s.cell a1 &&& target)⟩,
    ⟨_, rfl, s.writeZero_spec a1 (s.cell a1 ||| target)⟩,
    ⟨_, rfl, s.writeZero_spec a1 (s.cell a1 ^^^ target)⟩⟩

end Sys2Proof.Machine

namespace Sys2Proof

open Sys2Proof.Laws

/-! ### Decoding and encoding -/

/-- Settles O1: `Laws.RoundTrip` proves it for each instruction. -/
theorem decodeOfEncodeIsTheInstruction : Obligations.DecodeOfEncodeIsTheInstruction
  | .unassigned00 => RoundTrip.unassigned00 | .nop => RoundTrip.nop
  | .ret => RoundTrip.ret | .reti => RoundTrip.reti
  | .cli => RoundTrip.cli | .sti => RoundTrip.sti | .hlt => RoundTrip.hlt
  | .unassigned07 => RoundTrip.unassigned07 | .unassigned08 => RoundTrip.unassigned08
  | .unassigned09 => RoundTrip.unassigned09 | .unassigned0A => RoundTrip.unassigned0A
  | .unassigned0B => RoundTrip.unassigned0B | .unassigned0C => RoundTrip.unassigned0C
  | .unassigned0D => RoundTrip.unassigned0D | .unassigned0E => RoundTrip.unassigned0E
  | .unassigned0F => RoundTrip.unassigned0F
  | .inc a => RoundTrip.inc a | .dec a => RoundTrip.dec a
  | .push a => RoundTrip.push a | .pop a => RoundTrip.pop a
  | .unassigned14 a => RoundTrip.unassigned14 a | .unassigned15 a => RoundTrip.unassigned15 a
  | .unassigned16 a => RoundTrip.unassigned16 a | .unassigned17 a => RoundTrip.unassigned17 a
  | .unassigned18 a => RoundTrip.unassigned18 a | .unassigned19 a => RoundTrip.unassigned19 a
  | .unassigned1A a => RoundTrip.unassigned1A a | .unassigned1B a => RoundTrip.unassigned1B a
  | .unassigned1C a => RoundTrip.unassigned1C a | .unassigned1D a => RoundTrip.unassigned1D a
  | .unassigned1E a => RoundTrip.unassigned1E a | .unassigned1F a => RoundTrip.unassigned1F a
  | .movRR a b => RoundTrip.movRR a b | .movLoad a b => RoundTrip.movLoad a b
  | .movStore a b => RoundTrip.movStore a b | .movLit8 a b => RoundTrip.movLit8 a b
  | .andRR a b => RoundTrip.andRR a b | .orRR a b => RoundTrip.orRR a b | .xorRR a b => RoundTrip.xorRR a b
  | .mulRR a b => RoundTrip.mulRR a b | .divRR a b => RoundTrip.divRR a b
  | .addRR a b => RoundTrip.addRR a b | .subRR a b => RoundTrip.subRR a b
  | .jmp w => RoundTrip.jmp w | .call w => RoundTrip.call w
  | .je w => RoundTrip.je w | .jne w => RoundTrip.jne w
  | .jo w => RoundTrip.jo w | .jno w => RoundTrip.jno w
  | .cmpRR a b => RoundTrip.cmpRR a b | .cmpLit8 a b => RoundTrip.cmpLit8 a b
  | .unassigned33 a b => RoundTrip.unassigned33 a b | .unassigned34 a b => RoundTrip.unassigned34 a b
  | .unassigned35 a b => RoundTrip.unassigned35 a b | .unassigned36 a b => RoundTrip.unassigned36 a b
  | .unassigned37 a b => RoundTrip.unassigned37 a b | .unassigned38 a b => RoundTrip.unassigned38 a b
  | .unassigned39 a b => RoundTrip.unassigned39 a b | .unassigned3A a b => RoundTrip.unassigned3A a b
  | .unassigned3B a b => RoundTrip.unassigned3B a b | .unassigned3C a b => RoundTrip.unassigned3C a b
  | .unassigned3D a b => RoundTrip.unassigned3D a b | .unassigned3E a b => RoundTrip.unassigned3E a b
  | .unassigned3F a b => RoundTrip.unassigned3F a b
  | .lpm a w => RoundTrip.lpm a w | .andLit16 a w => RoundTrip.andLit16 a w
  | .orLit16 a w => RoundTrip.orLit16 a w | .xorLit16 a w => RoundTrip.xorLit16 a w
  | .addLit16 a w => RoundTrip.addLit16 a w | .subLit16 a w => RoundTrip.subLit16 a w
  | .cmpLit16 a w => RoundTrip.cmpLit16 a w | .int n w => RoundTrip.int n w
  | .movLit16 a w => RoundTrip.movLit16 a w
  | .unassigned49 a b c => RoundTrip.unassigned49 a b c | .unassigned4A a b c => RoundTrip.unassigned4A a b c
  | .unassigned4B a b c => RoundTrip.unassigned4B a b c | .unassigned4C a b c => RoundTrip.unassigned4C a b c
  | .unassigned4D a b c => RoundTrip.unassigned4D a b c | .unassigned4E a b c => RoundTrip.unassigned4E a b c
  | .unassigned4F a b c => RoundTrip.unassigned4F a b c
  | .illegal50 op => RoundTrip.illegal50 op | .illegal60 op => RoundTrip.illegal60 op
  | .illegal80 op => RoundTrip.illegal80 op

/-- The bytes of a target of two bytes are these two (R53, R55). -/
@[simp] theorem highByte_append (hi lo : Byte) : highByte (hi ++ lo) = hi := BitVec.extractLsb'_append_eq_left
@[simp] theorem lowByte_append (hi lo : Byte) : lowByte (hi ++ lo) = lo := BitVec.extractLsb'_append_eq_right

/-- The opcodes of 0x50 to 0xFF are those of the illegal rows (R61, R63). -/
theorem instrOf_of_illegal {op : Byte} (h : 0x50 ≤ op.toNat) (a1 a2 a3 : Byte) :
    instrOf op a1 a2 a3 = illegalOf op := by
  rw [instrOf]
  split
  case h_81 => rfl
  all_goals omega

/-- An illegal row encodes to its opcode byte alone. -/
theorem encode_illegalOf (op : Byte) : encode (illegalOf op) = [op] := by
  rw [illegalOf]
  split
  · rfl
  · split <;> rfl

/-- No operand byte of an illegal opcode is read (R63). -/
theorem operandCount_of_illegal {op : Byte} (h : 0x50 ≤ op.toNat) : operandCount op = 0 := by
  rw [Machine.operandCount_eq, if_neg (by omega), if_neg (by omega), if_neg (by omega), if_neg (by omega)]

/-- No format has more than three operand bytes (R52). -/
theorem operandCount_le (op : Byte) : operandCount op ≤ 3 := by
  rw [Machine.operandCount_eq]
  repeat' split
  all_goals omega

/-- Encoding what the opcode map gives returns the opcode and the operand bytes its format has (R53, R60): by
computation where no operand is a target, and by splitting the target where one is. -/
theorem encode_instrOf (op a1 a2 a3 : Byte) :
    encode (instrOf op a1 a2 a3) = op :: [a1, a2, a3].take (operandCount op) := by
  obtain ⟨⟨n, hn⟩⟩ := op
  have hrange : n < 0x2B ∨ (0x2B ≤ n ∧ n ≤ 0x30) ∨ (0x31 ≤ n ∧ n ≤ 0x3F) ∨ (0x40 ≤ n ∧ n ≤ 0x48) ∨
      (0x49 ≤ n ∧ n ≤ 0x4F) ∨ 0x50 ≤ n := by omega
  rcases hrange with h | ⟨hlo, hhi⟩ | ⟨hlo, hhi⟩ | ⟨hlo, hhi⟩ | ⟨hlo, hhi⟩ | h
  · interval_cases n <;> rfl
  · interval_cases n <;>
      exact congrArg₂ (fun hi lo => [_, hi, lo]) (highByte_append a1 a2) (lowByte_append a1 a2)
  · interval_cases n <;> rfl
  · interval_cases n <;>
      exact congrArg₂ (fun hi lo => [_, a1, hi, lo]) (highByte_append a2 a3) (lowByte_append a2 a3)
  · interval_cases n <;> rfl
  · have hop : 0x50 ≤ (BitVec.ofFin ⟨n, hn⟩ : Byte).toNat := h
    rw [instrOf_of_illegal hop, encode_illegalOf, operandCount_of_illegal hop]
    rfl

/-- What the opcode map gives is well formed: an illegal row carries an opcode that matches its mask (R61, R63). -/
theorem wellFormed_instrOf (op a1 a2 a3 : Byte) : (instrOf op a1 a2 a3).WellFormed := by
  have h : ∀ n : Fin 256, (instrOf (BitVec.ofFin n) a1 a2 a3).wellFormed = true := by
    intro n
    fin_cases n <;> rfl
  exact h op.toFin

/-- Encoding an opcode with as many operand bytes as its range fixes gives these bytes back (R52, R53). -/
theorem encode_instrOfBytes {op : Byte} {operands : List Byte} (h : operands.length = operandCount op) :
    encode (instrOfBytes op operands) = op :: operands := by
  have hle : operands.length ≤ 3 := h ▸ operandCount_le op
  rw [instrOfBytes, encode_instrOf, ← h]
  match operands, hle with
  | [], _ => rfl
  | [_], _ => rfl
  | [_, _], _ => rfl
  | [_, _, _], _ => rfl

/-- An opcode, as many operand bytes as its range fixes and any bytes after them decode to the instruction of the
opcode map and leave the bytes after (R52, R67). -/
theorem decode_of_length {op : Byte} {operands : List Byte} (h : operands.length = operandCount op)
    (rest : List Byte) : decode (op :: (operands ++ rest)) = .ok (instrOfBytes op operands, rest) := by
  simp [decode, ← h]

/-- Bytes that decode are an opcode, as many operand bytes as its range fixes, and the bytes left. -/
theorem decode_eq_ok {bytes rest : List Byte} {i : Instr} (h : decode bytes = .ok (i, rest)) :
    ∃ op operands, operands.length = operandCount op ∧ bytes = op :: (operands ++ rest) ∧
      i = instrOfBytes op operands := by
  cases bytes with
  | nil => cases h
  | cons op bytes =>
    rw [decode] at h
    split at h
    · cases h
    · next hlen =>
      cases h
      exact ⟨op, bytes.take (operandCount op), List.length_take_of_le (Nat.not_lt.1 hlen),
        by rw [List.take_append_drop], rfl⟩

/-- Settles O2: the bytes are an opcode with its operand bytes, and the opcode map loses none of them. -/
theorem encodeOfDecodeIsTheBytes : Obligations.EncodeOfDecodeIsTheBytes := by
  intro bytes i rest h
  obtain ⟨op, operands, hlen, rfl, rfl⟩ := decode_eq_ok h
  rw [encode_instrOfBytes hlen]
  exact ⟨rfl, wellFormed_instrOf ..⟩

/-- An opcode followed by as many operand bytes as its range fixes is an instruction of that length. -/
theorem exists_decode_of_length {op : Byte} {operands : List Byte} (h : operandCount op = operands.length)
    (rest : List Byte) : ∃ i : Instr, i.length = operands.length + 1 ∧
      decode (op :: (operands ++ rest)) = .ok (i, rest) :=
  ⟨_, congrArg List.length (encode_instrOfBytes h.symm), decode_of_length h.symm rest⟩

/-- Settles O3: one clause of R52 for each range of opcodes; from 0x50 on the instruction is an illegal row's. -/
theorem lengthIsFixedByOpcodeRange : Obligations.LengthIsFixedByOpcodeRange := by
  intro op a1 a2 a3 rest
  have hcount := Machine.operandCount_eq op
  refine ⟨fun h => exists_decode_of_length (operands := []) ?_ rest,
    fun h => exists_decode_of_length (operands := [a1]) ?_ rest,
    fun h => exists_decode_of_length (operands := [a1, a2]) ?_ rest,
    fun h => exists_decode_of_length (operands := [a1, a2, a3]) ?_ rest,
    fun h => ⟨_, ?_, decode_of_length (operands := []) (operandCount_of_illegal h).symm rest⟩⟩
  · rw [hcount, if_pos (by omega)]; rfl
  · rw [hcount, if_neg (by omega), if_pos (by omega)]; rfl
  · rw [hcount, if_neg (by omega), if_neg (by omega), if_pos (by omega)]; rfl
  · rw [hcount, if_neg (by omega), if_neg (by omega), if_neg (by omega), if_pos (by omega)]; rfl
  · rw [instrOfBytes, instrOf_of_illegal h, illegalOf]
    split
    · simp
    · split <;> simp

/-- Settles O4: each word's opcode names its constructor, and a target is its two bytes, high byte first. -/
theorem sampleWordsDecode : Obligations.SampleWordsDecode := rfl

end Sys2Proof

namespace Sys2Proof.Machine

/-! ### What a program cannot see -/

namespace SameForPrograms

/-- A state is alike to itself. -/
theorem refl (s : State) : SameForPrograms s s := ⟨fun _ => rfl, rfl, fun _ => rfl⟩

section Operations

/-! Each read gives the same value in two states that are alike, and each operation, on equal values, keeps two states
alike. -/

variable {s s' : State} (h : SameForPrograms s s')
include h

theorem cell (i : Byte) : s'.cell i = s.cell i := h.1 i
theorem faultCode : s'.faultCode = s.faultCode := h.2.1
theorem memRead (a : Word) : s'.memRead a = s.memRead a := h.2.2 a
theorem pc : s'.pc = s.pc := h.cell 0#8
theorem sp : s'.sp = s.sp := h.cell 1#8
theorem flags : s'.flags = s.flags := h.cell 2#8
theorem flag (f : Flag) : s'.flag f = s.flag f := by rw [State.flag, State.flag, h.flags]
theorem signedCell (a : Byte) : s16 (s'.cell a) = s16 (s.cell a) := congrArg s16 (h.cell a)
theorem indirectIndex (a : Byte) : s'.indirectIndex a = s.indirectIndex a := congrArg cellIndex (h.cell a)

theorem setCell (i : Byte) {v v' : Word} (hv : v' = v) : SameForPrograms (s.setCell i v) (s'.setCell i v') := by
  subst hv
  exact ⟨fun j => by rw [State.cell_setCell, State.cell_setCell, h.cell], h.faultCode, h.memRead⟩

theorem raise (c : FaultCode) (k : Nat) (op : Byte) : SameForPrograms (s.raise c k op) (s'.raise c k op) :=
  ⟨h.cell, rfl, h.memRead⟩

theorem setPc {v v' : Word} (hv : v' = v) : SameForPrograms (s.setPc v) (s'.setPc v') := h.setCell 0#8 hv

theorem setFlag (f : Flag) (b : Bool) : SameForPrograms (s.setFlag f b) (s'.setFlag f b) :=
  h.setCell 2#8 (by rw [h.flags])

theorem push {v v' : Word} (hv : v' = v) : SameForPrograms (s.push v) (s'.push v') := by
  have h1 := h.setCell (cellIndex s.sp) hv
  rw [State.push, State.push, h.sp]
  exact h1.setCell 1#8 (by rw [h1.sp])

theorem pop : s'.pop.1 = s.pop.1 ∧ SameForPrograms s.pop.2 s'.pop.2 := by
  refine ⟨?_, h.setCell 1#8 (by rw [h.sp])⟩
  rw [State.pop_fst, State.pop_fst, h.sp, h.cell]

theorem returnFromInterrupt : SameForPrograms s.returnFromInterrupt s'.returnFromInterrupt := by
  obtain ⟨hpc, h1⟩ := h.pop
  obtain ⟨hflags, h2⟩ := (h1.setPc hpc).pop
  exact h2.setCell 2#8 hflags

theorem writeZero (a : Byte) {r r' : Word} (hr : r' = r) : SameForPrograms (s.writeZero a r) (s'.writeZero a r') := by
  subst hr
  exact (h.setCell a rfl).setFlag .zero _

theorem compareFlags {n n' : Int} (hn : n' = n) : SameForPrograms (s.compareFlags n) (s'.compareFlags n') := by
  subst hn
  exact (h.setFlag .zero _).setFlag .carry _

theorem writeZeroCarry (a : Byte) {n n' : Int} (hn : n' = n) :
    SameForPrograms (s.writeZeroCarry a n) (s'.writeZeroCarry a n') :=
  (h.setCell a (congrArg trunc16 hn)).compareFlags hn

theorem updateZeroOfCell (a : Byte) :
    SameForPrograms (s.updateZeroWord (s.cell a)) (s'.updateZeroWord (s'.cell a)) := by
  rw [h.cell a]
  exact h.setFlag .zero _

theorem updateCarry {n n' : Int} (hn : n' = n) : SameForPrograms (s.updateCarry n) (s'.updateCarry n') := by
  subst hn
  exact h.setFlag .carry _

/-- A branch on equal conditions keeps two states alike where both its arms do. -/
theorem ite {t t' u u' : State} (f : Flag) (ht : SameForPrograms t t') (hu : SameForPrograms u u') :
    SameForPrograms (if s.flag f then t else u) (if s'.flag f then t' else u') := by
  rw [h.flag]
  split
  · exact ht
  · exact hu

/-- The fetch-decode stage reads the same instruction (R59). -/
theorem fetch : s'.fetch.1 = s.fetch.1 ∧ SameForPrograms s.fetch.2 s'.fetch.2 := by
  rw [State.fetch_spec, State.fetch_spec, h.pc]
  simp only [h.memRead]
  exact ⟨trivial, h.setPc rfl⟩

/-- The gate of a step answers the same (R133). -/
theorem stepGate : s'.stepGate = s.stepGate := by
  rw [State.stepGate, State.stepGate, h.faultCode, State.isRunning, State.isRunning, h.flag]

end Operations
end SameForPrograms

/-- Two meanings both answer a next state, and a program cannot tell these apart. -/
def SameNext (r r' : Result) : Prop := ∃ t t', r = .next t ∧ r' = .next t' ∧ SameForPrograms t t'

/-- Two next states that are alike. -/
theorem SameForPrograms.next {t t' : State} (h : SameForPrograms t t') : SameNext (.next t) (.next t') :=
  ⟨t, t', rfl, rfl, h⟩

/-- DIV takes the same branch, as its divisor is the same (R86). -/
theorem execDivRR_sameNext {s s' : State} (h : SameForPrograms s s') (a1 a2 : Byte) :
    SameNext (execDivRR a1 a2 s) (execDivRR a1 a2 s') := by
  rw [execDivRR, execDivRR, h.signedCell a1, h.signedCell a2]
  split
  · exact (h.raise ..).next
  · exact ((h.setCell a1 rfl).updateZeroOfCell a1).next

/-- LPM reads the same bytes of the instruction stream (R97). -/
theorem execLpm_sameNext {s s' : State} (h : SameForPrograms s s') (a1 : Byte) (target : Word) :
    SameNext (execLpm a1 target s) (execLpm a1 target s') := by
  rw [execLpm, execLpm]
  split
  · exact (h.raise ..).next
  · exact (h.setCell a1 (by rw [h.memRead, h.memRead])).next

/-- INT writes only what a program cannot see (R30, R104). -/
theorem execInt_sameNext {s s' : State} (h : SameForPrograms s s') (n : Byte) (target : Word) :
    SameNext (execInt n target s) (execInt n target s') := by
  rw [execInt, execInt]
  split
  · exact SameForPrograms.next h
  · exact h.next

/-- Every instruction answers a next state, which depends only on what a program can see: it reads cells and the
instruction stream, and each operation it writes with keeps the two states alike (R30, R31). -/
theorem exec_sameNext {s s' : State} (h : SameForPrograms s s') (i : Instr) : SameNext (exec i s) (exec i s') := by
  cases i with
  | ret => exact (h.pop.2.setPc h.pop.1).next
  | reti => exact h.returnFromInterrupt.next
  | cli => exact (h.setFlag .ie false).next
  | sti => exact (h.setFlag .ie true).next
  | hlt => exact (h.setFlag .hlt true).next
  | inc a => exact (h.writeZeroCarry a (congrArg (· + 1) (h.signedCell a))).next
  | dec a => exact (h.writeZeroCarry a (congrArg (· - 1) (h.signedCell a))).next
  | push a => exact (h.push (h.cell a)).next
  | pop a => exact (h.pop.2.setCell a h.pop.1).next
  | movRR a b => exact (h.setCell a (h.cell b)).next
  | movLoad a b => exact (h.setCell a (by rw [h.indirectIndex, h.cell])).next
  | movStore a b =>
    change SameNext _ (.next (s'.setCell (s'.indirectIndex a) (s'.cell b)))
    rw [h.indirectIndex]
    exact (h.setCell (s.indirectIndex a) (h.cell b)).next
  | movLit8 a lit => exact (h.setCell a rfl).next
  | andRR a b => exact (h.writeZero a (congrArg₂ (· &&& ·) (h.cell a) (h.cell b))).next
  | orRR a b => exact (h.writeZero a (congrArg₂ (· ||| ·) (h.cell a) (h.cell b))).next
  | xorRR a b => exact (h.writeZero a (congrArg₂ (· ^^^ ·) (h.cell a) (h.cell b))).next
  | mulRR a b => exact (h.writeZeroCarry a (congrArg₂ (· * ·) (h.signedCell a) (h.signedCell b))).next
  | divRR a b => exact execDivRR_sameNext h a b
  | addRR a b =>
    have hn := congrArg₂ (· + ·) (h.signedCell a) (h.signedCell b)
    exact ((h.setCell a (congrArg trunc16 hn)).updateCarry hn).next
  | subRR a b =>
    have hn := congrArg₂ (· - ·) (h.signedCell a) (h.signedCell b)
    exact (((h.setCell a (congrArg trunc16 hn)).updateCarry hn).updateZeroOfCell a).next
  | jmp target => exact (h.setPc rfl).next
  | call target => exact ((h.push h.pc).setPc rfl).next
  | je target => exact (h.ite .zero (h.setPc rfl) h).next
  | jne target => exact (h.ite .zero h (h.setPc rfl)).next
  | jo target => exact (h.ite .carry (h.setPc rfl) h).next
  | jno target => exact (h.ite .carry h (h.setPc rfl)).next
  | cmpRR a b => exact (h.compareFlags (congrArg₂ (· - ·) (h.signedCell a) (h.signedCell b))).next
  | cmpLit8 a lit => exact (h.compareFlags (congrArg (· - s8 lit) (h.signedCell a))).next
  | lpm a target => exact execLpm_sameNext h a target
  | andLit16 a target => exact (h.writeZero a (congrArg (· &&& target) (h.cell a))).next
  | orLit16 a target => exact (h.writeZero a (congrArg (· ||| target) (h.cell a))).next
  | xorLit16 a target => exact (h.writeZero a (congrArg (· ^^^ target) (h.cell a))).next
  | addLit16 a target => exact (h.writeZeroCarry a (congrArg (· + s16 target) (h.signedCell a))).next
  | subLit16 a target => exact (h.writeZeroCarry a (congrArg (· - s16 target) (h.signedCell a))).next
  | cmpLit16 a target => exact (h.compareFlags (congrArg (· - s16 target) (h.signedCell a))).next
  | int n target => exact execInt_sameNext h n target
  | movLit16 a target => exact (h.setCell a rfl).next
  | illegal50 op => exact (h.raise .decodeFault 1 op).next
  | illegal60 op => exact (h.raise .decodeFault 1 op).next
  | illegal80 op => exact (h.raise .decodeFault 1 op).next
  | _ => exact h.next

/-- Settles O19: the gate and the fetch read only what a program can see, and so does the instruction. -/
theorem programsCannotSeeVectorsOrFaultRecords : Obligations.ProgramsCannotSeeVectorsOrFaultRecords := by
  intro s s' h
  rw [step, step, h.stepGate]
  obtain ⟨hi, hfetch⟩ := h.fetch
  obtain ⟨t, t', ht, ht', hsame⟩ := exec_sameNext hfetch s.fetch.1
  cases s.stepGate with
  | some f => exact ⟨fun _ hf => (nomatch hf), fun _ hf => hf⟩
  | none =>
    rw [hi]
    simp only [ht, ht']
    refine ⟨fun u hu => ?_, fun _ hf => nomatch hf⟩
    cases hu
    exact ⟨t', rfl, hsame⟩

/-! ### What a step answers -/

/-- Every instruction answers a next state, in every state. -/
theorem exec_next (i : Instr) (s : State) : ∃ t, exec i s = .next t := by
  obtain ⟨t, -, ht, -⟩ := exec_sameNext (.refl s) i
  exact ⟨t, ht⟩

/-- The step of a ready machine executes an instruction, and every instruction answers a next state. -/
theorem step_next_of_ready {s : State} (h : s.Ready) : ∃ t, step s = .next t := by
  rw [step_of_ready h]
  exact exec_next s.fetch.1 s.fetch.2

/-- With a fault recorded, the step reports that fault (R114, R133). -/
theorem step_of_faulted {s : State} (h : s.faultCode ≠ .none) :
    ∃ f, step s = .fault f ∧ f.code = some s.faultCode := by
  rw [step, State.stepGate]
  cases hc : s.faultCode with
  | none => exact absurd hc h
  | decodeFault => exact ⟨_, rfl, rfl⟩
  | divideByZero => exact ⟨_, rfl, rfl⟩
  | lpmRangeFault => exact ⟨_, rfl, rfl⟩

/-- With no fault recorded, a halted machine has no transition (R133). -/
theorem step_of_halted {s : State} (hc : s.faultCode = .none) (hrun : s.isRunning = false) :
    step s = .fault .halted := by
  simp [step, State.stepGate, hc, hrun]

/-- Settles O6: a ready machine executes an instruction, and any other step answers a fault. -/
theorem runningMachineCompletesEveryStep : Obligations.RunningMachineCompletesEveryStep := by
  refine ⟨fun s hc hrun => step_next_of_ready ⟨hc, hrun⟩, fun s r h => ?_⟩
  rw [step] at h
  split at h
  · cases h
  · obtain ⟨t, ht⟩ := exec_next s.fetch.1 s.fetch.2
    rw [ht] at h
    cases h

/-- A call of `step()` that executes an instruction returns Ok or the fault then recorded (R132). -/
theorem hostStep_of_next {s t : State} (h : step s = .next t) :
    s.hostStep = (t, if t.faultCode = .none then .ok else .fault t.faultCode) := by
  rw [State.hostStep, h]

/-- A call of `step()` with a fault recorded returns it again (R114). -/
theorem hostStep_of_faulted {s : State} (h : s.faultCode ≠ .none) : s.hostStep = (s, .fault s.faultCode) := by
  obtain ⟨f, hf, hcode⟩ := step_of_faulted h
  simp only [State.hostStep, hf, hcode]

/-- A call of `step()` of a halted machine takes no step (R133). -/
theorem hostStep_of_halted {s : State} (hc : s.faultCode = .none) (hrun : s.isRunning = false) :
    s.hostStep = (s, .noStep) := by
  simp only [State.hostStep, step_of_halted hc hrun, Fault.code]

/-- Settles O7: the step answers the recorded fault, that the machine is halted, or a next state. -/
theorem hostStepReturnsWhatTheSpecSays : Obligations.HostStepReturnsWhatTheSpecSays := by
  refine fun s => ⟨hostStep_of_faulted, hostStep_of_halted, fun hc hrun => ?_⟩
  obtain ⟨t, ht⟩ := step_next_of_ready ⟨hc, hrun⟩
  exact ⟨t, ht, hostStep_of_next ht⟩

/-- The cells after `reset()`: the three named ones at their reset values, every other one as it was (R127). -/
theorem cell_hostReset (s : State) (i : Byte) :
    s.hostReset.cell i =
      if i = 0#8 then Config.pcReset else if i = 1#8 then Config.spReset else if i = 2#8 then Config.flagsReset
      else s.cell i := by
  change (((s.setPc Config.pcReset).setSp Config.spReset).setFlags Config.flagsReset).cell i = _
  rw [State.cell_setFlags, State.cell_setSp, State.cell_setPc]
  by_cases h2 : i = 2#8
  · simp [h2]
  · by_cases h1 : i = 1#8 <;> simp [h1, h2]

/-- `reset()` clears HLT with the flags (R129). -/
theorem isRunning_hostReset (s : State) : s.hostReset.isRunning = true := by
  simp [State.isRunning, State.flag, State.flags, cell_hostReset]

/-- Settles O8: the step of a machine that is not ready answers a fault, and `reset()` clears the fault code and
HLT. -/
theorem onlyResetEndsAFaultOrAHalt : Obligations.OnlyResetEndsAFaultOrAHalt := by
  intro s h
  by_cases hc : s.faultCode = .none
  · have hrun : s.isRunning = false := by simpa [hc] using h
    exact ⟨⟨_, step_of_halted hc hrun⟩, by rw [hostStep_of_halted hc hrun], rfl, isRunning_hostReset s⟩
  · obtain ⟨f, hf, -⟩ := step_of_faulted hc
    exact ⟨⟨f, hf⟩, by rw [hostStep_of_faulted hc], rfl, isRunning_hostReset s⟩

/-- The first four bytes at the program counter, where they decode to `i`, are what the fetch reads (R20, R59). -/
theorem fetch_of_decode {s : State} {i : Instr} {rest : List Byte}
    (h : decode [s.memRead s.pc, s.memRead (s.pc + 1#16), s.memRead (s.pc + 2#16), s.memRead (s.pc + 3#16)] =
      .ok (i, rest)) : s.fetch = (i, s.setPc (s.pc + BitVec.ofNat 16 i.length)) := by
  obtain ⟨op, operands, hlen, hbytes, rfl⟩ := decode_eq_ok h
  obtain ⟨rfl, hop⟩ := List.cons.inj hbytes
  have hlen3 : operands.length ≤ 3 := hlen ▸ operandCount_le _
  have htake : operands =
      (List.range operands.length).map (fun k => s.memRead (s.pc + BitVec.ofNat 16 (k + 1))) := by
    rw [← Nat.min_eq_left hlen3, ← List.take_range, List.map_take]
    exact (List.take_left (l₁ := operands) (l₂ := rest)).symm.trans (by rw [← hop]; rfl)
  rw [State.fetch_spec, ← hlen, ← htake, Instr.length, encode_instrOfBytes hlen]
  rfl

/-- Settles O5: the fetch reads the instruction that the four bytes decode to. -/
theorem stepRunsTheDecodedInstruction : Obligations.StepRunsTheDecodedInstruction := by
  intro s i rest hc hrun h
  rw [step_of_ready ⟨hc, hrun⟩, fetch_of_decode h]

/-! ### Faults -/

/-- The fault record points at the opcode byte from which the program counter was moved past the instruction. -/
theorem faultPc_raise_setPc (s : State) (v : Word) (code : FaultCode) (length : Nat) (op : Byte) :
    ((s.setPc (v + BitVec.ofNat 16 length)).raise code length op).faultPc = v := by
  rw [State.faultPc_raise, State.pc_setPc, BitVec.add_sub_cancel]

/-- A step on an opcode of 0x50 or more raises DecodeFault (R110). -/
theorem step_of_illegal {s : State} (hr : s.Ready) (h : 0x50 ≤ (s.memRead s.pc).toNat) :
    step s = .next ((s.setPc (s.pc + 1#16)).raise .decodeFault 1 (s.memRead s.pc)) := by
  rw [step_of_ready hr, State.fetch_spec, operandCount_of_illegal h, instrOfBytes, instrOf_of_illegal h, illegalOf]
  split
  · rfl
  · split <;> rfl

/-- A step on DIV whose divisor, as the fetch leaves it, is 0 raises DivideByZero (R86). -/
theorem step_of_divideByZero {s : State} (hr : s.Ready) (hop : s.memRead s.pc = 0x28#8)
    (h : (s.setPc (s.pc + 3#16)).cell (s.memRead (s.pc + 2#16)) = 0#16) :
    step s = .next ((s.setPc (s.pc + 3#16)).raise .divideByZero 3 0x28#8) := by
  rw [step_of_ready hr, State.fetch_spec, hop]
  exact if_pos ((s16_eq_zero _).2 h)

/-- A step on LPM whose target is 0xFFFF raises LpmRangeFault (R97). -/
theorem step_of_lpmRange {s : State} (hr : s.Ready) (hop : s.memRead s.pc = 0x40#8)
    (h2 : s.memRead (s.pc + 2#16) = 0xFF#8) (h3 : s.memRead (s.pc + 3#16) = 0xFF#8) :
    step s = .next ((s.setPc (s.pc + 4#16)).raise .lpmRangeFault 4 0x40#8) := by
  have ht : s.memRead (s.pc + 2#16) ++ s.memRead (s.pc + 3#16) = 0xFFFF#16 := by rw [h2, h3]; rfl
  rw [step_of_ready hr, State.fetch_spec, hop]
  exact if_pos ht

/-- A target is 0xFFFF exactly where both its bytes are 0xFF. -/
theorem append_eq_top (hi lo : Byte) : hi ++ lo = 0xFFFF#16 ↔ hi = 0xFF#8 ∧ lo = 0xFF#8 := by
  refine ⟨fun h => ⟨?_, ?_⟩, fun ⟨hhi, hlo⟩ => by rw [hhi, hlo]; rfl⟩
  · rw [← highByte_append hi lo, h]; rfl
  · rw [← lowByte_append hi lo, h]; rfl

/-- Settles O10: such a step raises DecodeFault, and a raise writes the fault status alone. -/
theorem illegalOpcodeStepRaisesDecodeFault : Obligations.IllegalOpcodeStepRaisesDecodeFault := by
  intro s hc hrun h
  have hstep := step_of_illegal ⟨hc, hrun⟩ h
  exact ⟨_, hstep, hostStep_of_next hstep, rfl, faultPc_raise_setPc s s.pc .decodeFault 1 _, rfl,
    s.cell_setPc _, fun _ => rfl, fun _ => rfl⟩

/-- How many bytes are fetched of an instruction that raises a fault (R52, R112). -/
def FaultCode.fetched : FaultCode → Nat
  | .none => 0
  | .decodeFault => 1
  | .divideByZero => 3
  | .lpmRangeFault => 4

/-- A step that leaves a fault recorded is the raise of that fault, right after the fetch (R113). -/
theorem step_raises {s t : State} (h : step s = .next t) (hne : t.faultCode ≠ .none) :
    t = (s.setPc (s.pc + BitVec.ofNat 16 t.faultCode.fetched)).raise t.faultCode t.faultCode.fetched
      (s.memRead s.pc) := by
  obtain ⟨-, ⟨hnone, -⟩ | ⟨-, rfl⟩ | ⟨hop, -, rfl⟩ | ⟨hop, -, rfl⟩⟩ := step_cases h
  · exact absurd hnone hne
  · rfl
  · rw [hop]; rfl
  · rw [hop]; rfl

/-- Settles O11: the step is a raise, which writes the fault status alone, after a fetch, which moves the program
counter. -/
theorem faultsArePrecise : Obligations.FaultsArePrecise := by
  intro s t h hne
  have ht := step_raises h hne
  have hpc : t.pc = s.pc + BitVec.ofNat 16 t.faultCode.fetched := by
    conv_lhs => rw [ht]
    rw [State.pc_raise, State.pc_setPc]
  generalize t.faultCode = code at ht hpc ⊢
  subst ht
  exact ⟨fun i hi => (s.cell_setPc _ i).trans (if_neg hi), fun _ => rfl, fun _ => rfl, faultPc_raise_setPc .., rfl,
    fun hc => hc ▸ hpc, fun hc => hc ▸ hpc, fun hc => hc ▸ hpc⟩

/-- What has to hold of the next instruction for a fault to be raised (R112); with no fault there is no condition. -/
def FaultCause (s : State) : FaultCode → Prop
  | .none => True
  | .decodeFault => 0x50 ≤ (s.memRead s.pc).toNat
  | .divideByZero =>
    s.memRead s.pc = 0x28#8 ∧ (s.setCell 0#8 (s.pc + 3#16)).cell (s.memRead (s.pc + 2#16)) = 0#16
  | .lpmRangeFault =>
    s.memRead s.pc = 0x40#8 ∧ s.memRead (s.pc + 2#16) = 0xFF#8 ∧ s.memRead (s.pc + 3#16) = 0xFF#8

/-- The fault a step leaves recorded has its cause. -/
theorem faultCause_of_step {s t : State} (h : step s = .next t) : FaultCause s t.faultCode := by
  obtain ⟨-, ⟨hnone, -⟩ | ⟨hop, rfl⟩ | ⟨hop, hdiv, rfl⟩ | ⟨hop, htop, rfl⟩⟩ := step_cases h
  · rw [hnone]; trivial
  · exact hop
  · exact ⟨hop, hdiv⟩
  · exact ⟨hop, (append_eq_top ..).1 htop⟩

/-- Where a fault has its cause, the step raises it. -/
theorem step_of_faultCause {s : State} (hr : s.Ready) {code : FaultCode} (hne : code ≠ .none)
    (h : FaultCause s code) : ∃ t, step s = .next t ∧ t.faultCode = code := by
  cases code with
  | none => exact absurd rfl hne
  | decodeFault => exact ⟨_, step_of_illegal hr h, rfl⟩
  | divideByZero => exact ⟨_, step_of_divideByZero hr h.1 h.2, rfl⟩
  | lpmRangeFault => exact ⟨_, step_of_lpmRange hr h.1 h.2.1 h.2.2, rfl⟩

/-- A step records a fault exactly where that fault has its cause. -/
theorem faultCode_eq_iff {s t : State} (h : step s = .next t) {code : FaultCode} (hne : code ≠ .none) :
    t.faultCode = code ↔ FaultCause s code := by
  refine ⟨fun hc => hc ▸ faultCause_of_step h, fun hcause => ?_⟩
  obtain ⟨u, hu, hcode⟩ := step_of_faultCause (step_next h).1 hne hcause
  cases h.symm.trans hu
  exact hcode

/-- Settles O12, one fault at a time. -/
theorem faultsHaveExactlyTheirCauses : Obligations.FaultsHaveExactlyTheirCauses := fun _ _ h =>
  ⟨faultCode_eq_iff h (code := .decodeFault) nofun, faultCode_eq_iff h (code := .divideByZero) nofun,
    faultCode_eq_iff h (code := .lpmRangeFault) nofun⟩

/-- The machine is running after its program counter alone has moved. -/
theorem isRunning_setPc (s : State) (v : Word) : (s.setPc v).isRunning = s.isRunning := by
  rw [State.isRunning, State.isRunning, State.flag, State.flag, State.flags_setPc]

/-- Settles O13: a step keeps the stream, and a raise records what `FaultConsistent` asks of its fault. -/
theorem stepKeepsTheInvariant : Obligations.StepKeepsTheInvariant := by
  rintro s t ⟨hwf, -⟩ h
  obtain ⟨⟨-, hrun⟩, hcases⟩ := step_cases h
  rcases hcases with ⟨hnone, himem⟩ | ⟨hop, rfl⟩ | ⟨hop, hdiv, rfl⟩ | ⟨hop, htop, rfl⟩
  · refine ⟨himem ▸ hwf, ?_⟩
    rw [State.FaultConsistent, hnone]
    trivial
  · refine ⟨hwf, ?_⟩
    rw [State.FaultConsistent, State.faultCode_raise, faultPc_raise_setPc]
    exact ⟨rfl, hop, s.pc_setPc _, (isRunning_setPc ..).trans hrun⟩
  · refine ⟨hwf, ?_⟩
    rw [State.FaultConsistent, State.faultCode_raise, faultPc_raise_setPc]
    exact ⟨hop, rfl, hdiv, s.pc_setPc _, (isRunning_setPc ..).trans hrun⟩
  · obtain ⟨h2, h3⟩ := (append_eq_top ..).1 htop
    refine ⟨hwf, ?_⟩
    rw [State.FaultConsistent, State.faultCode_raise, faultPc_raise_setPc]
    exact ⟨hop, rfl, h2, h3, s.pc_setPc _, (isRunning_setPc ..).trans hrun⟩

/-- Settles O17: a step keeps the stream, whether it raises a fault or not. -/
theorem noStepWritesTheInstructionStream : Obligations.NoStepWritesTheInstructionStream := by
  intro s t h
  obtain ⟨-, ⟨-, himem⟩ | ⟨-, rfl⟩ | ⟨-, -, rfl⟩ | ⟨-, -, rfl⟩⟩ := step_cases h
  · exact State.memRead_congr himem
  all_goals exact fun _ => rfl

end Sys2Proof.Machine

namespace Sys2Proof.Machine

/-! ### The vector table -/

/-- Settles O54: a number below 32 names the entry written, and there is no entry for one of 32 or more. -/
theorem intRegistersAVector : Obligations.IntRegistersAVector := by
  intro s n target
  by_cases hn : n.toNat < Config.ivtEntries
  · refine ⟨s.ivtWrite ⟨n.toNat, hn⟩ target, dif_pos hn, fun k => ?_, fun hge => absurd hn (Nat.not_lt.2 hge),
      fun _ => rfl, rfl, rfl, rfl, fun _ => rfl⟩
    simp only [State.ivtRead_ivtWrite, Fin.ext_iff]
  · refine ⟨s, dif_neg hn, fun k => (if_neg fun h : k.val = n.toNat => hn ?_).symm, fun _ => rfl,
      fun _ => rfl, rfl, rfl, rfl, fun _ => rfl⟩
    exact h ▸ k.isLt

/-- Executing an instruction leaves the vector table alone, or it is INT (R30). -/
theorem exec_ivt {i : Instr} {s t : State} (h : exec i s = .next t) :
    t.ivt = s.ivt ∨ ∃ n target, i = .int n target := by
  cases i with
  | int n target => exact .inr ⟨n, target, rfl⟩
  | divRR a b =>
    change execDivRR a b s = _ at h
    rw [execDivRR] at h
    split at h <;> cases h <;> exact .inl rfl
  | lpm a target =>
    change execLpm a target s = _ at h
    rw [execLpm] at h
    split at h <;> cases h <;> exact .inl rfl
  | je target => cases h; split <;> exact .inl rfl
  | jne target => cases h; split <;> exact .inl rfl
  | jo target => cases h; split <;> exact .inl rfl
  | jno target => cases h; split <;> exact .inl rfl
  | _ => cases h; exact .inl rfl

/-- Settles O18: where the opcode is INT's, the table is the one INT leaves, and any other instruction keeps it. -/
theorem onlyIntWritesTheVectorTable : Obligations.OnlyIntWritesTheVectorTable := by
  intro s t h n
  obtain ⟨-, he⟩ := step_next h
  rw [State.fetch_spec] at he
  by_cases hop : s.memRead s.pc = 0x47#8
  · obtain ⟨u, hu, hivt, -⟩ := intRegistersAVector (s.setPc (s.pc + 4#16)) (s.memRead (s.pc + 1#16))
      (s.memRead (s.pc + 2#16) ++ s.memRead (s.pc + 3#16))
    rw [hop] at he
    cases hu.symm.trans he
    rw [hivt]
    refine if_congr ?_ rfl rfl
    rw [and_iff_right hop, eq_comm]
  · rw [if_neg fun hn => hop hn.1]
    rcases exec_ivt he with hsame | ⟨k, target, hint⟩
    · exact State.ivtRead_congr hsame n
    · have hhead := congrArg (fun i => (encode i).head?) hint
      exact absurd (Option.some.inj ((head_encode_instrOf ..).symm.trans hhead)) hop

/-! ### Reset -/

/-- The invariant holds of a state with a canonical stream and no fault recorded. -/
theorem inv_of_faultCode_eq_none {s : State} (hwf : s.imem.wf) (hc : s.faultCode = .none) : s.Inv := by
  refine ⟨hwf, ?_⟩
  rw [State.FaultConsistent, hc]
  trivial

/-- Settles O14: each of these states records no fault. -/
theorem resetMeetsTheInvariant : Obligations.ResetMeetsTheInvariant :=
  ⟨inv_of_faultCode_eq_none Memory.wf_nil rfl, fun _ _ hwf => inv_of_faultCode_eq_none hwf rfl,
    fun _ hwf => inv_of_faultCode_eq_none hwf rfl⟩

/-- Settles O27: the cells are those of `cell_hostReset`, and the stream is not written. -/
theorem hostResetWritesOnlyWhatItLists : Obligations.HostResetWritesOnlyWhatItLists := by
  refine fun s => ⟨cell_hostReset s, fun n => ?_, rfl, fun _ => rfl⟩
  simp only [State.ivtRead, State.ivt_hostReset, Vector.getElem_replicate]

/-- Settles O26: a launched state is one that `reset()` has left. -/
theorem launchedStateHoldsTheResetValues : Obligations.LaunchedStateHoldsTheResetValues := by
  refine ⟨fun imem init => ?_, ?_⟩
  · refine ⟨cell_hostReset _ 0#8, cell_hostReset _ 1#8, cell_hostReset _ 2#8, isRunning_hostReset _,
      (hostResetWritesOnlyWhatItLists _).2.1, rfl, fun i hi => ?_, fun _ => rfl⟩
    have hne : ∀ j : Byte, j.toNat < 3 → i ≠ j := fun j hj h => by
      subst h
      omega
    rw [State.launch, cell_hostReset, if_neg (hne 0#8 (by decide)), if_neg (hne 1#8 (by decide)),
      if_neg (hne 2#8 (by decide)), State.cell]
  · rfl

/-! ### The instruction stream -/

/-- In a canonical list the entries are the bytes that differ from what an unlisted address reads as. -/
theorem Memory.mem_iff {m : Memory} (hm : m.wf) (a : Nat) (v : Byte) :
    (a, v) ∈ m ↔ m.read a = v ∧ v ≠ Config.unlistedByte := by
  induction m with
  | nil =>
    rw [Memory.read]
    exact ⟨fun h => absurd h List.not_mem_nil, fun ⟨h, hne⟩ => absurd h.symm hne⟩
  | cons c m ih =>
    obtain ⟨k, w⟩ := c
    obtain ⟨hsorted, hbytes⟩ := hm
    obtain ⟨hk, hsorted⟩ := List.pairwise_cons.1 hsorted
    have hw := (hbytes (k, w) List.mem_cons_self).2
    have ih := ih ⟨hsorted, fun c hc => hbytes c (List.mem_cons_of_mem _ hc)⟩
    rw [List.mem_cons, Memory.read]
    by_cases hka : k = a
    · subst hka
      have hnot : (k, v) ∉ m := fun h => Nat.lt_irrefl k (hk (k, v) h)
      rw [if_pos rfl, Prod.mk.injEq]
      exact ⟨fun h => h.elim (fun ⟨_, h⟩ => ⟨h.symm, h ▸ hw⟩) (fun h => absurd h hnot),
        fun ⟨h, _⟩ => .inl ⟨rfl, h.symm⟩⟩
    · rw [if_neg hka, ← ih, Prod.mk.injEq]
      exact ⟨fun h => h.resolve_left fun h => hka h.1.symm, .inr⟩

/-- Settles O15: two sorted lists with the same entries are equal, and the entries are determined by the bytes
read. -/
theorem canonicalStreamIsDeterminedByItsBytes : Obligations.CanonicalStreamIsDeterminedByItsBytes := by
  intro m n hm hn hread
  have hread' : ∀ {a : Nat}, a < Config.imemSize → m.read a = n.read a := fun {a} ha => by
    simpa only [BitVec.toNat_ofNat, Nat.mod_eq_of_lt (show a < 2 ^ 16 from ha)] using hread (BitVec.ofNat 16 a)
  have hmem : ∀ c, c ∈ m ↔ c ∈ n := fun ⟨a, v⟩ => by
    constructor
    · intro h
      have := hread' (hm.2 _ h).1
      rwa [Memory.mem_iff hn, ← this, ← Memory.mem_iff hm]
    · intro h
      have := hread' (hn.2 _ h).1
      rwa [Memory.mem_iff hm, this, ← Memory.mem_iff hn]
  have : Std.Irrefl fun c d : Host.Cell => c.1 < d.1 := ⟨fun _ => Nat.lt_irrefl _⟩
  have : Std.Antisymm fun c d : Host.Cell => c.1 < d.1 := ⟨fun _ _ h h' => absurd h' (Nat.lt_asymm h)⟩
  exact List.Pairwise.eq_of_mem_iff hm.1 hn.1 hmem

/-- The list of a total instruction stream: its bytes in address order, without those that an unlisted address reads
as. -/
def Memory.ofStream (f : Word → Byte) : Memory :=
  ((List.range Config.imemSize).map fun a => (a, f (BitVec.ofNat 16 a))).filter (·.2 ≠ Config.unlistedByte)

/-- The entries of that list. -/
theorem Memory.mem_ofStream (f : Word → Byte) (a : Nat) (v : Byte) :
    (a, v) ∈ Memory.ofStream f ↔ a < Config.imemSize ∧ f (BitVec.ofNat 16 a) = v ∧ v ≠ Config.unlistedByte := by
  simp only [Memory.ofStream, List.mem_filter, List.mem_map, List.mem_range, Prod.mk.injEq, decide_eq_true_eq]
  constructor
  · rintro ⟨⟨b, hb, rfl, hf⟩, hne⟩
    exact ⟨hb, hf, hne⟩
  · rintro ⟨ha, hf, hne⟩
    exact ⟨⟨a, ha, rfl, hf⟩, hne⟩

/-- That list is in canonical form. -/
theorem Memory.wf_ofStream (f : Word → Byte) : (Memory.ofStream f).wf := by
  refine ⟨?_, fun ⟨a, v⟩ h => ?_⟩
  · refine List.Pairwise.filter _ (List.pairwise_map.2 ?_)
    exact List.pairwise_lt_range
  · obtain ⟨ha, -, hne⟩ := (Memory.mem_ofStream f a v).1 h
    exact ⟨ha, hne⟩

/-- Settles O16: a byte of the stream is listed, or it is what an unlisted address reads as. -/
theorem everyStreamIsRepresented : Obligations.EveryStreamIsRepresented := by
  refine fun f => ⟨Memory.ofStream f, Memory.wf_ofStream f, fun a => ?_⟩
  have hmem : ∀ v, (a.toNat, v) ∈ Memory.ofStream f ↔ f a = v ∧ v ≠ Config.unlistedByte := fun v => by
    rw [Memory.mem_ofStream, BitVec.ofNat_toNat, BitVec.setWidth_eq]
    exact and_iff_right a.isLt
  have hread := Memory.mem_iff (Memory.wf_ofStream f) a.toNat
  by_cases hun : f a = Config.unlistedByte
  · by_contra hne
    rw [hun] at hne
    exact hne (hun ▸ ((hmem _).1 ((hread _).2 ⟨rfl, hne⟩)).1).symm
  · exact ((hread _).1 ((hmem _).2 ⟨rfl, hun⟩)).1

end Sys2Proof.Machine

namespace Sys2Proof.Machine

/-! ### Instructions without an operand, and the raises -/

/-- Settles O28: each of these terms executes by `State.noAction`, or is NOP. -/
theorem nopAndUnassignedDoNothing : Obligations.NopAndUnassignedDoNothing := by
  intro s a1 a2 a3
  refine ⟨?_, ?_, ?_, ?_⟩ <;> (intro i hi; fin_cases hi <;> rfl)

/-- Settles O29: each of the three rows is the raise of DecodeFault. -/
theorem illegalOpcodesRecordDecodeFault : Obligations.IllegalOpcodesRecordDecodeFault := by
  intro s op i hi
  have hexec : exec i s = .next (s.decodeFault op) := by
    simp only [List.mem_cons, List.not_mem_nil, or_false] at hi
    rcases hi with rfl | rfl | rfl <;> rfl
  exact ⟨_, hexec, rfl, rfl, rfl, fun _ => rfl, fun _ => rfl, fun _ => rfl⟩

/-- Settles O43: with a divisor of 0, DIV is a raise. -/
theorem divByZeroIsRecorded : Obligations.DivByZeroIsRecorded := fun s _ a2 h =>
  ⟨s.raise .divideByZero 3 0x28#8, if_pos ((s16_eq_zero (s.cell a2)).2 h), rfl, rfl, rfl,
    fun _ => rfl, fun _ => rfl, fun _ => rfl⟩

/-- Settles O53: with the target 0xFFFF, LPM is a raise. -/
theorem lpmAtTheTopIsRecorded : Obligations.LpmAtTheTopIsRecorded := fun s _ =>
  ⟨s.raise .lpmRangeFault 4 0x40#8, rfl, rfl, rfl, rfl, fun _ => rfl, fun _ => rfl, fun _ => rfl⟩

/-- A word of two bytes is 256 times the first and the second (R8, R42). -/
theorem wordOfBytes_eq_ofNat (hi lo : Byte) : wordOfBytes hi lo = BitVec.ofNat 16 (256 * hi.toNat + lo.toNat) := by
  apply BitVec.eq_of_toNat_eq
  refine (BitVec.toNat_append _ _).trans ?_
  rw [← Nat.shiftLeft_add_eq_or_of_lt lo.isLt, BitVec.toNat_ofNat, Nat.shiftLeft_eq]
  omega

/-- Settles O52: below 0xFFFF LPM writes the cell and nothing else. -/
theorem lpmLoadsABigEndianWord : Obligations.LpmLoadsABigEndianWord := by
  intro s a1 target h
  rw [← wordOfBytes_eq_ofNat]
  exact ⟨_, if_neg h, .setCell s a1 _⟩

/-- Settles O51: JO takes the jump where CARRY is set, JNO where it is clear. -/
theorem jumpsOnCarry : Obligations.JumpsOnCarry := fun s target =>
  ⟨⟨_, rfl, MovesPc.ite (.setPc s target) (.refl s) (s.flag .carry)⟩,
    ⟨_, rfl, MovesPc.ite (.refl s) (.setPc s target) (s.flag .carry)⟩⟩

/-- Assigning a flag writes no cell but the flags. -/
theorem State.cell_setFlag_of_ne (s : State) (f : Flag) (b : Bool) {i : Byte} (h : i ≠ 2#8) :
    (s.setFlag f b).cell i = s.cell i := (s.cell_setFlag f b i).trans (if_neg h)

/-- Settles O30: each of the two assigns IE. -/
theorem cliAndStiRewriteOnlyIE : Obligations.CliAndStiRewriteOnlyIE := fun s =>
  ⟨⟨_, rfl, s.getLsbD_flags_setFlag .ie false, fun _ => s.cell_setFlag_of_ne .ie false,
      .of_fields rfl rfl rfl rfl rfl⟩,
    ⟨_, rfl, s.getLsbD_flags_setFlag .ie true, fun _ => s.cell_setFlag_of_ne .ie true,
      .of_fields rfl rfl rfl rfl rfl⟩⟩

/-- Settles O31: HLT assigns the HLT bit, and the machine is then halted. -/
theorem hltHaltsTheMachine : Obligations.HltHaltsTheMachine := by
  intro s
  have hrun : (s.setFlag .hlt true).isRunning = false := by
    rw [State.isRunning, State.flag, State.getLsbD_flags_setFlag, if_pos rfl]
    rfl
  exact ⟨_, rfl, s.getLsbD_flags_setFlag .hlt true, fun _ => s.cell_setFlag_of_ne .hlt true,
    .of_fields rfl rfl rfl rfl rfl, hrun, fun hc => step_of_halted hc hrun⟩

/-! ### Arithmetic -/

/-- Truncation carries signed arithmetic to that of the patterns: the sum (R9). -/
theorem trunc16_add (x y : Word) : trunc16 (s16 x + s16 y) = x + y := by
  rw [trunc16, BitVec.ofInt_add, s16, s16, BitVec.ofInt_toInt, BitVec.ofInt_toInt]

/-- The difference, truncated. -/
theorem trunc16_sub (x y : Word) : trunc16 (s16 x - s16 y) = x - y := by
  rw [trunc16, Int.sub_eq_add_neg, BitVec.ofInt_add, BitVec.ofInt_neg, s16, s16, BitVec.ofInt_toInt,
    BitVec.ofInt_toInt, BitVec.sub_eq_add_neg]

/-- The product, truncated. -/
theorem trunc16_mul (x y : Word) : trunc16 (s16 x * s16 y) = x * y := by
  rw [trunc16, BitVec.ofInt_mul, s16, s16, BitVec.ofInt_toInt, BitVec.ofInt_toInt]

/-- Settles O41: `writeZeroCarry` of the exact product. -/
theorem mulKeepsTheLowHalf : Obligations.MulKeepsTheLowHalf := by
  intro s a1 a2
  rw [← trunc16_mul]
  exact ⟨_, rfl, s.writeZeroCarry_spec a1 (s16 (s.cell a1) * s16 (s.cell a2))⟩

/-- CARRY from a sum of two signed cells is its sign (R28). -/
theorem carryOut_add (x y : Word) : carryOut (s16 x + s16 y) = decide (x.toInt + y.toInt < 0) := by
  have hx := s16_bounds x
  have hy := s16_bounds y
  exact carryOut_of_range (by omega) (by omega)

/-- CARRY from a difference of two signed cells is set where the first is the lesser (R28). -/
theorem carryOut_sub (x y : Word) : carryOut (s16 x - s16 y) = decide (x.toInt < y.toInt) := by
  have hx := s16_bounds x
  have hy := s16_bounds y
  rw [carryOut_of_range (by omega) (by omega)]
  exact decide_eq_decide.2 sub_neg

/-- A difference of patterns is 0 exactly for equal ones. -/
theorem word_sub_eq_zero (x y : Word) : x - y = 0#16 ↔ x = y := sub_eq_zero

/-- `writeZeroCarry` of a sum (R74, R101). -/
theorem State.writeZeroCarry_add (s : State) (a : Byte) (x y : Word) :
    WritesResult s (s.writeZeroCarry a (s16 x + s16 y)) (some a) (x + y) (some (decide (x + y = 0#16)))
      (some (decide (x.toInt + y.toInt < 0))) := by
  have h := s.writeZeroCarry_spec a (s16 x + s16 y)
  simpa only [← carryOut_eq, carryOut_add, ← trunc16_eq_zero, trunc16_add] using h

/-- `writeZeroCarry` of a difference (R75, R102). -/
theorem State.writeZeroCarry_sub (s : State) (a : Byte) (x y : Word) :
    WritesResult s (s.writeZeroCarry a (s16 x - s16 y)) (some a) (x - y) (some (decide (x = y)))
      (some (decide (x.toInt < y.toInt))) := by
  have h := s.writeZeroCarry_spec a (s16 x - s16 y)
  simpa only [← carryOut_eq, carryOut_sub, ← trunc16_eq_zero, trunc16_sub, word_sub_eq_zero] using h

/-- `compareFlags` of a difference (R95, R103). -/
theorem State.compareFlags_sub (s : State) (x y : Word) :
    WritesResult s (s.compareFlags (s16 x - s16 y)) none 0#16 (some (decide (x = y)))
      (some (decide (x.toInt < y.toInt))) := by
  have h := s.compareFlags_spec (s16 x - s16 y) 0#16
  simpa only [← carryOut_eq, carryOut_sub, ← trunc16_eq_zero, trunc16_sub, word_sub_eq_zero] using h

/-- The sign extension of a byte keeps its signed value (R57). -/
theorem s16_sext16 (b : Byte) : s16 (sext16 b) = s8 b := BitVec.toInt_signExtend_of_le (by decide)

/-- Settles O34: INC adds the pattern 1, and DEC subtracts it. -/
theorem incAndDecResults : Obligations.IncAndDecResults := by
  refine fun s a1 => ⟨⟨_, rfl, ?_⟩, ⟨_, rfl, ?_⟩⟩
  · have hzero : s.cell a1 + 1#16 = 0#16 ↔ s.cell a1 = 0xFFFF#16 := by bv_omega
    rw [← decide_eq_decide.2 hzero]
    exact s.writeZeroCarry_add a1 (s.cell a1) 1#16
  · rw [decide_eq_decide.2 (sub_neg (a := (s.cell a1).toInt) (b := 1))]
    exact s.writeZeroCarry_sub a1 (s.cell a1) 1#16

/-- Settles O46: both are `writeZeroCarry`, of a sum and of a difference. -/
theorem addAndSubOfALiteral : Obligations.AddAndSubOfALiteral := fun s a1 target =>
  ⟨⟨_, rfl, s.writeZeroCarry_add a1 (s.cell a1) target⟩, ⟨_, rfl, s.writeZeroCarry_sub a1 (s.cell a1) target⟩⟩

/-- Settles O47: each compare is `compareFlags` of a difference of two patterns, the byte literal sign-extended. -/
theorem comparesSetZeroAndCarry : Obligations.ComparesSetZeroAndCarry := by
  intro s a1 a2 lit target
  refine ⟨⟨_, rfl, s.compareFlags_sub (s.cell a1) (s.cell a2)⟩,
    ⟨s.compareFlags (s16 (s.cell a1) - s8 lit), rfl, ?_⟩,
    ⟨_, rfl, s.compareFlags_sub (s.cell a1) target⟩⟩
  have hlit : (sext16 lit).toInt = lit.toInt := s16_sext16 lit
  rw [← s16_sext16, ← hlit, decide_eq_decide.2 BitVec.toInt_inj]
  exact s.compareFlags_sub (s.cell a1) (sext16 lit)

/-- Settles O44: ADD writes the sum, then CARRY. -/
theorem addOfRegistersSetsOnlyCarry : Obligations.AddOfRegistersSetsOnlyCarry := by
  intro s a1 a2
  rw [← carryOut_add, ← trunc16_add]
  exact ⟨_, rfl, (WritesResult.setCell s a1 _).setCarry _⟩

/-- A quotient truncated toward zero is no further from zero than the dividend (R86). -/
theorem tdiv_bounds (x y : Word) :
    -32768 ≤ Int.tdiv x.toInt y.toInt ∧ Int.tdiv x.toInt y.toInt ≤ 32768 := by
  have hx := s16_bounds x
  have hle := Int.natAbs_tdiv_le_natAbs x.toInt y.toInt
  rw [s16] at hx
  omega

/-- Settles O42: DIV writes the quotient, then ZERO from the cell it wrote; the quotient lies so that it is 0 exactly
where its pattern is. -/
theorem divTruncatesTowardZero : Obligations.DivTruncatesTowardZero := by
  intro s a1 a2 h
  have hzero : trunc16 (Int.tdiv (s.cell a1).toInt (s.cell a2).toInt) = 0#16 ↔
      Int.tdiv (s.cell a1).toInt (s.cell a2).toInt = 0 := by
    have hq := tdiv_bounds (s.cell a1) (s.cell a2)
    rw [trunc16_eq_zero]
    omega
  refine ⟨_, if_neg (mt (s16_eq_zero _).1 h), ?_⟩
  rw [← decide_eq_decide.2 hzero, State.cell_setCell, if_pos rfl, State.updateZeroWord, beq_eq_decide]
  exact (WritesResult.setCell s a1 _).setZero _

/-- A word whose bit 1 is replaced is 0 exactly where its other bits are 0 and the bit put there is. -/
theorem putBit_carry_eq_zero (w : Word) (b : Bool) :
    putBit w Flag.carry.bit b = 0#16 ↔ w &&& 0xFFFD#16 = 0#16 ∧ b = false := by
  cases b
  · exact (and_iff_left rfl).symm
  · refine ⟨fun h => ?_, fun h => nomatch h.2⟩
    have := getLsbD_putBit w (k := 1) (by decide) true 1
    rw [show putBit w 1 true = 0#16 from h] at this
    cases this

/-- The destination as SUB reads it again: where it is the flags, CARRY stands in it (R88). -/
theorem cell_subResult (s : State) (a : Byte) (n : Int) :
    ((s.setCell a (trunc16 n)).updateCarry n).cell a =
      if a = 2#8 then putBit (trunc16 n) Flag.carry.bit (carryOut n) else trunc16 n := by
  by_cases h : a = 2#8 <;> simp [State.updateCarry, State.flags, h]

/-- What the destination read again says of the difference: where it is the flags, CARRY must be clear too. -/
theorem cell_subResult_beq_zero (s : State) (a : Byte) (x y : Word) :
    (((s.setCell a (trunc16 (s16 x - s16 y))).updateCarry (s16 x - s16 y)).cell a == 0#16) =
      if a = 2#8 then decide ((x - y) &&& 0xFFFD#16 = 0#16 ∧ ¬ x.toInt < y.toInt) else decide (x = y) := by
  rw [beq_eq_decide, cell_subResult, trunc16_sub]
  split
  · refine decide_eq_decide.2 ?_
    rw [putBit_carry_eq_zero, carryOut_sub, decide_eq_false_iff_not]
  · exact decide_eq_decide.2 (word_sub_eq_zero x y)

/-- Settles O45: SUB writes the difference, then CARRY, then ZERO from the destination read again. -/
theorem subOfRegistersRereadsForZero : Obligations.SubOfRegistersRereadsForZero := by
  intro s a1 a2
  rw [← cell_subResult_beq_zero s, ← carryOut_sub, ← trunc16_sub]
  exact ⟨_, rfl, ((WritesResult.setCell s a1 _).setCarry _).setZero _⟩

end Sys2Proof.Machine

namespace Sys2Proof.Machine

/-! ### The stack -/

/-- Settles O32: the two writes of RET, in their order. -/
theorem retPopsThePc : Obligations.RetPopsThePc := fun s =>
  ⟨_, rfl, fun i => by rw [State.cell_setPc, State.pop_fst, State.cell_pop], .of_fields rfl rfl rfl rfl rfl⟩

/-- Settles O33: `State.cell_returnFromInterrupt`, by the cell written. -/
theorem retiPopsThePcThenTheFlags : Obligations.RetiPopsThePcThenTheFlags := by
  refine fun s => ⟨_, rfl, fun i => ?_, .of_fields rfl rfl rfl rfl rfl⟩
  have hsp : s.sp + 1#16 + 1#16 = s.sp + 2#16 := BitVec.add_assoc ..
  have hpc : s.returnFromInterrupt.pc = s.pop.1 := s.cell_returnFromInterrupt 0#8
  rw [State.cell_returnFromInterrupt, hpc, hsp, ← State.pop_fst]
  by_cases h2 : i = 2#8
  · subst h2
    generalize cellIndex (s.sp + 2#16) = k
    by_cases hk : k = 0#8
    · subst hk
      rfl
    · simp [hk]
  · by_cases h1 : i = 1#8
    · subst h1
      rfl
    · simp [h1, h2]

/-- Settles O35: PUSH is `State.push` of the register's value. -/
theorem pushStoresThroughTheStackPointer : Obligations.PushStoresThroughTheStackPointer := fun s a1 =>
  ⟨_, rfl, s.cell_push (s.cell a1), .of_fields rfl rfl rfl rfl rfl⟩

/-- Settles O36: the increment of the stack pointer, then the write of the register. -/
theorem popLoadsThroughTheStackPointer : Obligations.PopLoadsThroughTheStackPointer := fun s a1 =>
  ⟨_, rfl, fun i => by rw [State.cell_setCell, State.pop_fst, State.cell_pop], .of_fields rfl rfl rfl rfl rfl⟩

/-- Settles O49: the push of the program counter, then the write of it. -/
theorem callPushesTheReturnAddress : Obligations.CallPushesTheReturnAddress := fun s target =>
  ⟨_, rfl, fun i => by rw [State.cell_setPc, State.cell_push], .of_fields rfl rfl rfl rfl rfl⟩

/-- A push through a stack pointer that does not select itself (R39). -/
theorem State.cell_push_of_ne {s : State} (h : cellIndex s.sp ≠ 1#8) (v : Word) (j : Byte) :
    (s.push v).cell j =
      if j = 1#8 then s.sp - 1#16 else if j = cellIndex s.sp then v else s.cell j := by
  rw [State.cell_push, if_neg h]

/-- The stack pointer after a push through one that does not select itself. -/
theorem State.sp_push_of_ne {s : State} (h : cellIndex s.sp ≠ 1#8) (v : Word) : (s.push v).sp = s.sp - 1#16 :=
  State.cell_push_of_ne h v 1#8

/-- A pop that makes the stack pointer `p`, where `p` does not select the stack pointer itself (R40). -/
theorem State.pop_of_sp {t : State} {p : Word} (hsp : t.sp = p - 1#16) (h : cellIndex p ≠ 1#8) :
    t.pop.1 = t.cell (cellIndex p) ∧ ∀ j, t.pop.2.cell j = if j = 1#8 then p else t.cell j := by
  have hp : t.sp + 1#16 = p := by rw [hsp, BitVec.sub_add_cancel]
  exact ⟨by rw [State.pop_fst, hp, if_neg h], fun j => by rw [State.cell_pop, hp]⟩

/-- How a bound on a cell's index tells it from the named cells. -/
theorem byte_ne_of_le {i j : Byte} {n : Nat} (hi : i.toNat < n) (hj : n ≤ j.toNat) : j ≠ i := by
  rintro rfl
  omega

/-- Settles O21: the cell pushed to is the one popped from. -/
theorem pushThenPopMovesTheValue : Obligations.PushThenPopMovesTheValue := by
  intro s r q hidx hr hq
  have h1 : cellIndex s.sp ≠ 1#8 := byte_ne_of_le (by decide) hidx
  obtain ⟨hval, hcells⟩ := State.pop_of_sp (State.sp_push_of_ne h1 (s.cell r)) h1
  refine ⟨_, _, rfl, rfl, ?_, ?_⟩
  · rw [State.cell_setCell, if_pos rfl, hval, State.cell_push_of_ne h1, if_neg h1, if_pos rfl]
  · have hq1 : 1#8 ≠ q := (byte_ne_of_le (by decide) hq).symm
    rw [State.sp, State.cell_setCell, if_neg hq1, hcells, if_pos rfl]

/-- Settles O23: RET pops from the cell that CALL pushed the program counter to. -/
theorem callThenRetReturns : Obligations.CallThenRetReturns := by
  intro s target hidx
  have h0 : cellIndex s.sp ≠ 0#8 := byte_ne_of_le (by decide) hidx
  have h1 : cellIndex s.sp ≠ 1#8 := byte_ne_of_le (by decide) hidx
  have hcall : ∀ j, ((s.push s.pc).setPc target).cell j = if j = 0#8 then target
      else if j = 1#8 then s.sp - 1#16 else if j = cellIndex s.sp then s.pc else s.cell j := fun j => by
    rw [State.cell_setPc, State.cell_push_of_ne h1]
  obtain ⟨hval, hcells⟩ := State.pop_of_sp (hcall 1#8) h1
  refine ⟨_, _, rfl, rfl, State.pc_setPc .., fun i => ?_⟩
  rw [State.cell_setPc, hval, hcells, hcall, hcall, if_neg h0, if_neg h1, if_pos rfl]
  by_cases hi0 : i = 0#8
  · subst hi0
    rw [if_pos rfl, if_neg h0.symm]
    rfl
  · by_cases hi1 : i = 1#8
    · subst hi1
      rw [if_neg hi0, if_pos rfl, if_neg h1.symm]
      rfl
    · rw [if_neg hi0, if_neg hi1, if_neg hi0, if_neg hi1]

/-- Going down by one, a stack pointer that selects a cell above cell 0 selects the cell before it (R37). -/
theorem toNat_cellIndex_sub_one {v : Word} (h : 0 < (cellIndex v).toNat) :
    (cellIndex (v - 1#16)).toNat = (cellIndex v).toNat - 1 := by
  simp only [cellIndex, BitVec.toNat_setWidth, BitVec.toNat_sub, BitVec.toNat_ofNat] at h ⊢
  omega

/-- Settles O24: RETI pops `p` from the cell below the one it then pops `f` from. -/
theorem retiConsumesThePushedFrame : Obligations.RetiConsumesThePushedFrame := by
  intro s f p hidx
  have hbelow := toNat_cellIndex_sub_one (v := s.sp) (Nat.lt_of_lt_of_le (by decide) hidx)
  have h0 : cellIndex s.sp ≠ 0#8 := byte_ne_of_le (by decide) hidx
  have h1 : cellIndex s.sp ≠ 1#8 := byte_ne_of_le (by decide) hidx
  have hne : cellIndex s.sp ≠ cellIndex (s.sp - 1#16) := byte_ne_of_le (n := (cellIndex s.sp).toNat) (by omega) le_rfl
  have hbelow1 : cellIndex (s.sp - 1#16) ≠ 1#8 := byte_ne_of_le (n := 3) (by decide) (by omega)
  have hcells : ∀ j, ((s.push f).push p).cell j = if j = 1#8 then s.sp - 1#16 - 1#16
      else if j = cellIndex (s.sp - 1#16) then p else (s.push f).cell j := fun j => by
    have hsp := State.sp_push_of_ne h1 f
    rw [State.cell_push_of_ne (hsp ▸ hbelow1), hsp]
  have hsp : ((s.push f).push p).sp + 1#16 + 1#16 = s.sp := by
    rw [State.sp, hcells, if_pos rfl, BitVec.sub_add_cancel, BitVec.sub_add_cancel]
  have hpop : ((s.push f).push p).pop.1 = p := by
    rw [(State.pop_of_sp (hcells 1#8) hbelow1).1, hcells, if_neg hbelow1, if_pos rfl]
  refine ⟨_, rfl, (State.cell_returnFromInterrupt _ 0#8).trans hpop, ?_,
    (State.cell_returnFromInterrupt _ 1#8).trans hsp⟩
  rw [State.flags, State.cell_returnFromInterrupt, if_pos rfl, hsp, if_neg h1, if_neg h0, hcells, if_neg h1,
    if_neg hne, State.cell_push_of_ne h1, if_neg h1, if_pos rfl]

/-! ### Two executions -/

namespace WritesResult
variable {s t : State} {dst : Option Byte} {a : Byte} {r : Word} {z c : Option Bool} {b : Bool}

/-- A destination other than the flags holds the result. -/
theorem cell_dst (h : WritesResult s t (some a) r z c) (ha : a ≠ 2#8) : t.cell a = r :=
  (h.1 a ha).trans (if_pos rfl)

/-- A cell that is neither the destination nor the flags is as it was. -/
theorem cell_of_ne (h : WritesResult s t (some a) r z c) {i : Byte} (hi : i ≠ 2#8) (hne : a ≠ i) :
    t.cell i = s.cell i :=
  (h.1 i hi).trans (if_neg fun hai => hne (Option.some.inj hai))

theorem flag_zero (h : WritesResult s t dst r (some b) c) : t.flag .zero = b := h.2.1 0

theorem flag_carry (h : WritesResult s t dst r z (some b)) : t.flag .carry = b := h.2.1 1

end WritesResult

/-- Settles O25: a cell compared with itself is equal to it and not less. -/
theorem cmpOfACellWithItself : Obligations.CmpOfACellWithItself := by
  intro s a1
  obtain ⟨⟨t, ht, hw⟩, -⟩ := comparesSetZeroAndCarry s a1 a1 0#8 0#16
  exact ⟨t, ht, hw.flag_zero.trans (decide_eq_true rfl), hw.flag_carry.trans (decide_eq_false (Int.lt_irrefl _)),
    hw.1⟩

/-- Settles O20: the results of INC and DEC, one after the other. -/
theorem incThenDecRestoresTheCell : Obligations.IncThenDecRestoresTheCell := by
  intro s a1 ha
  obtain ⟨t, ht, hinc⟩ := (incAndDecResults s a1).1
  obtain ⟨u, hu, hdec⟩ := (incAndDecResults t a1).2
  rw [hinc.cell_dst ha] at hdec
  refine ⟨t, u, ht, hu, ?_, ?_, ?_⟩
  · rw [hdec.cell_dst ha, BitVec.add_sub_cancel]
  · rw [hdec.flag_zero]
    exact decide_eq_decide.2 (by bv_omega)
  · rw [hdec.flag_carry]
    refine decide_eq_decide.2 ?_
    have hlt := (s.cell a1).isLt
    rw [BitVec.toInt_eq_toNat_cond, BitVec.toNat_add, BitVec.toNat_ofNat]
    split <;> omega

/-- Settles O22: the operand is the same at both executions. -/
theorem addThenSubRestoresTheCell : Obligations.AddThenSubRestoresTheCell := by
  intro s a1 a2 h1 h2 hne
  obtain ⟨t, ht, hadd⟩ := addOfRegistersSetsOnlyCarry s a1 a2
  obtain ⟨u, hu, hsub⟩ := subOfRegistersRereadsForZero t a1 a2
  refine ⟨t, u, ht, hu, ?_⟩
  rw [hsub.cell_dst h1, hadd.cell_dst h1, hadd.cell_of_ne h2 hne, BitVec.add_sub_cancel]

end Sys2Proof.Machine
